-- ==== Sys2Proof/Word.lean ====
section
/-! DEFINITION. The plain words that cross the boundary of the RJN-206: the character of a line or a port, and the
sixteen-bit word of a check. Every quantity the manual counts in whole numbers is a `Nat` or an `Int`, not a word. -/

namespace Sys2Proof

/-- A character of the pass line or of the service port, and a byte of the configuration memory (R162, R181, R190). -/
abbrev Byte := BitVec 8

/-- The register of the CRC-16 of both frame types, and a mask of two bytes (R163, R185). -/
abbrev Word16 := BitVec 16

/-- One raw result of the analog converter, 0 to 4095 (R116). -/
abbrev Raw := BitVec 12

end Sys2Proof
end

