-- ==== Sys2Proof/Config.lean ====
section
/-! DEFINITION. The named values of the manual, the configuration a station is given by its image (R48, R75, R76, R79,
R88, R98, R113, R128, R129, R173 and the station, line and port settings), and the free values that the manual leaves
open. A configuration is data: the checks that an image must pass are in `Machine/Startup.lean`. -/

namespace Sys2Proof

/-! ## Named values -/

/-- The kinds of a notice, strongest first (R1). -/
inductive NoticeKind where
  | fullClosure | convoy | oneLane | chains | advisory
deriving DecidableEq, Repr

/-- The causes of a notice (R1). A cause selects no behaviour. -/
inductive Cause where
  | weather | avalanche | works | incident | seasonal
deriving DecidableEq, Repr

/-- The states of a notice record; LIFTED and EXPIRED records are tombstones (R1). -/
inductive NoticeState where
  | inForce | lifted | expired
deriving DecidableEq, Repr

/-- The key of a notice on the whole pass: its origin and its number (R3). -/
structure NoticeKey where
  origin : Nat
  number : Nat
deriving DecidableEq, Repr

/-- The three sign panels (R48, R98). -/
inductive Panel where
  | a | b | c
deriving DecidableEq, Repr

/-- The two gates (R48). -/
inductive GateId where
  | g0 | g1
deriving DecidableEq, Repr

/-- The five measured roles (R114). -/
inductive Role where
  | roadTemp | airTemp | wind | snowDepth | light
deriving DecidableEq, Repr

/-- One thing for each panel, in panel order A, B, C. -/
structure PerPanel (α : Type) where
  a : α
  b : α
  c : α
deriving DecidableEq, Repr

/-- One thing for each gate, Gate 0 first. -/
structure PerGate (α : Type) where
  g0 : α
  g1 : α
deriving DecidableEq, Repr

/-- One thing for each role, in the role order of READ class 8. -/
structure PerRole (α : Type) where
  roadTemp  : α
  airTemp   : α
  wind      : α
  snowDepth : α
  light     : α
deriving DecidableEq, Repr

/-- A path as a panel's path mask names it: a local path or a remote path, by index (R79). -/
inductive PathRef where
  | ours (i : Nat)
  | remote (i : Nat)
deriving DecidableEq, Repr

/-- The levels of an avalanche path, lowest first (R130). -/
inductive Level where
  | quiet | watch | warn | close
deriving DecidableEq, Repr

/-- The directions in which a gate may be entered (R48). -/
inductive Direction where
  | ascending | descending
deriving DecidableEq, Repr

/-- The states of a gate (R49): OPEN is `opened`. -/
inductive GateState where
  | opened | warning | lowering | closed | raising | retreat | waitClear | fault
deriving DecidableEq, Repr

/-- The modes of a gate (R49). -/
inductive GateMode where
  | auto | heldOpen | heldClosed
deriving DecidableEq, Repr

/-- What a gate is working toward (R52). -/
inductive Demand where
  | opening | closing
deriving DecidableEq, Repr

/-- Why a gate is in FAULT (R49). -/
inductive GateFault where
  | motionTimeout | limitConflict | displaced | obstructed | positionUnknown
deriving DecidableEq, Repr

/-- The start-up states (R186). -/
inductive StartUp where
  | resetHeld | loading | running | unconfigured
deriving DecidableEq, Repr

/-- The failure causes of an image, in the order of the checks (R187). -/
inductive FailureCause where
  | marker | length | sum | sections | range | order | unique | panel | gate
deriving DecidableEq, Repr

/-- The station fault latches (R176). -/
inductive FaultLatch where
  | panelFault (p : Panel)
  | gateFault (g : GateId)
  | sensorInvalid (r : Role)
  | duplicateStation
  | noticeTableFull
  | autoNoticeRefused
  | inboxDrop
deriving DecidableEq, Repr

/-- The role of a field input (R173). -/
inductive InputRole where
  | gateUp (g : GateId)
  | gateDown (g : GateId)
  | beam (g : GateId)
  | slidePulse
  | keyBit0
  | keyBit1
  | door
  | lineCarrier
  | panelSense (p : Panel)
  | unused
deriving DecidableEq, Repr

/-- Which changes of a debounced level set the input's latch (R173). -/
inductive EdgeSelection where
  | none | rising | falling | both
deriving DecidableEq, Repr

/-- The measurands of message fields (R94); the weather rules watch the same four, with WIND for WIND_KMH (R88). -/
inductive Measurand where
  | roadTemp | airTemp | wind | newSnow
deriving DecidableEq, Repr

/-- The sense of a weather rule (R88). -/
inductive Sense where
  | atOrBelow | atOrAbove
deriving DecidableEq, Repr

/-- The granularity of a descriptor's span (R76). -/
inductive Granularity where
  | cell | line
deriving DecidableEq, Repr

/-- The automatic notice a path issues at CLOSE (R128). -/
inductive PathAction where
  | none | convoy | fullClosure
deriving DecidableEq, Repr

/-! ## The configuration fields -/

/-- A descriptor's field: a measured value written into the message (R76, R94). -/
structure FieldCfg where
  measurand : Measurand
  offset    : Nat
  width     : Nat
deriving DecidableEq, Repr

/-- The loaded fields of a descriptor (R76). -/
structure DescriptorCfg where
  base        : Nat := 0
  limit       : Nat := 0
  granularity : Granularity := .cell
  postLevel   : Nat := 0
  flash       : Bool := false
  mask        : PerPanel Bool := ⟨false, false, false⟩
  field       : Option FieldCfg := none
deriving DecidableEq, Repr

/-- A panel's gate ahead (R79, R93). -/
structure GateAheadCfg where
  station    : Nat
  gate       : Nat
  descriptor : Nat
deriving DecidableEq, Repr

/-- One brightness step of a panel (R98). -/
structure BrightnessStep where
  onTime    : Nat
  threshold : Nat
deriving DecidableEq, Repr

/-- The default descriptors of a panel, one for each notice kind (R79). -/
structure DefaultDescriptors where
  fullClosure : Option Nat := none
  convoy      : Option Nat := none
  oneLane     : Option Nat := none
  chains      : Option Nat := none
  advisory    : Option Nat := none
deriving DecidableEq, Repr

/-- The configuration of a panel: its drive (R98) and its claims (R79). The flash periods are in tenths of a second. -/
structure PanelCfg where
  rows        : Nat
  columns     : Nat
  flashOn     : Nat
  flashOff    : Nat
  steps       : List BrightnessStep
  band        : Nat
  firstCover  : Nat
  lastCover   : Nat
  defaults    : DefaultDescriptors := {}
  pathMask    : List PathRef := []
  weatherMask : List Nat := []
  gateAhead   : Option GateAheadCfg := none
deriving DecidableEq, Repr

/-- The configuration of a fitted gate (R48). Its three inputs are the inputs whose roles name it (R173). -/
structure GateCfg where
  guarded     : Nat
  entry       : Direction
  approach    : PerPanel Bool
  descriptor  : Nat
  preWarning  : Nat
  motionLimit : Nat
  beamClear   : Nat
  onConvoy    : Bool
deriving DecidableEq, Repr

/-- An entry of the scan list; its role is `none` for NONE (R113). -/
structure ScanEntry where
  channel  : Nat
  role     : Option Role
  sampling : Nat
  offset   : Nat
  gain     : Int
  base     : Int
  shift    : Nat
deriving DecidableEq, Repr

/-- The configuration of a local path (R128). -/
structure PathCfg where
  number      : Nat
  wN          : Nat
  wW          : Nat
  wT          : Nat
  wA          : Nat
  tW          : Nat
  tR          : Nat
  tC          : Nat
  band        : Nat
  hold        : Nat
  action      : PathAction
  firstSec    : Nat
  lastSec     : Nat
  message     : Option Nat
  warnDesc    : Nat
  closeDesc   : Nat
deriving DecidableEq, Repr

/-- The configuration of a remote path (R129). -/
structure RemoteCfg where
  number    : Nat
  warnDesc  : Nat
  closeDesc : Nat
deriving DecidableEq, Repr

/-- The configuration of a weather rule (R88). -/
structure RuleCfg where
  measurand  : Measurand
  sense      : Sense
  setValue   : Int
  clearValue : Int
  descriptor : Nat
  mask       : PerPanel Bool
  priority   : Nat
deriving DecidableEq, Repr

/-- The configuration of a field input; `debounce` in milliseconds (R173). -/
structure InputCfg where
  role      : InputRole := .unused
  debounce  : Nat := 0
  edges     : EdgeSelection := .none
  attention : Bool := false
deriving DecidableEq, Repr

/-- Everything a station takes from its configuration image (R187): the station, line and port settings, the scan list,
the paths, the weather rules, the text store, the descriptors, the panels, the gates and the inputs. Lists that the
manual numbers from 0 hold their items in that order; an item past the end of a list is one the image does not give. -/
structure StationCfg where
  /-- The station number, 1 to 60. -/
  station        : Nat := 1
  /-- The home section, 0 to 31. -/
  home           : Nat := 0
  /-- The issue budget, 1 to 7, default 4 (R13). -/
  issueBudget    : Nat := 4
  /-- The refresh budget, 0 to 7, default 2 (R13). -/
  refreshBudget  : Nat := 2
  /-- The tombstone hold in minutes, 10 to 120, default 30 (R20). -/
  tombstoneHold  : Nat := 30
  /-- The bulletin period in seconds, 10 to 600, default 60 (R151). -/
  bulletinPeriod : Nat := 60
  /-- The pass line rate in bit/s (R162). -/
  lineRate       : Nat := 9600
  /-- The service port rate in bit/s (R181). -/
  portRate       : Nat := 9600
  /-- Even parity at the service port (R181). -/
  portParity     : Bool := false
  /-- The scan period in seconds, 1 to 10 (R115). -/
  scanPeriod     : Nat := 10
  scanList       : List ScanEntry := []
  paths          : List PathCfg := []
  remotes        : List RemoteCfg := []
  rules          : List RuleCfg := []
  /-- The cells of the text store from cell 0; a cell past the end of the list holds 0x00 (R75). -/
  text           : List Byte := []
  descriptors    : List DescriptorCfg := []
  panels         : PerPanel (Option PanelCfg) := ⟨none, none, none⟩
  gates          : PerGate (Option GateCfg) := ⟨none, none⟩
  inputs         : List InputCfg := []
  /-- The attention enables of the station fault latches, in the bit order of CLEAR_LATCHES (R176, R177). -/
  faultEnables   : List Bool := []
deriving DecidableEq, Repr

/-- The configuration image as LOADING has read it (R187): the eight header bytes, the bytes after them, and what the
Loader's decoding of the section contents gives. The manual lays out the header and the section lengths but not the
fields inside the sections, so the decoded fields come with the command: every decoding is one of the commands (log 4). -/
structure Image where
  /-- The header as read: marker, length, sum (R187, 13.3). -/
  header   : List Byte
  /-- The bytes read after the header. -/
  body     : List Byte
  /-- How many bytes the content of each section takes as it is decoded. -/
  used     : List Nat
  /-- How many decoded fields of a named kind hold a code that names no listed value. -/
  unlisted : Nat
  /-- The decoded fields. -/
  fields   : StationCfg
deriving DecidableEq, Repr

/-! ## Free values -/

/-- FREE VALUE: the glyphs built into every Panel Driver. The manual says which part of its cells a glyph may fill
(R98) and gives no glyph: `glyph code x y` says whether the pixel in column `x` and row `y` of the glyph of `code` is
lit (log 5). -/
opaque Config.glyph : Nat → Nat → Nat → Bool

end Sys2Proof
end

