-- ==== Sys2Proof/Syntax.lean ====
section
/-! DEFINITION. The commands the station takes: one constructor of `Instr` for each row of spec/opcode_table.json, with
the operands the rule behind the row names. Some rows are events from outside (a character, a terminal level, a reset),
some are events of the station's own timers, and some are what one block tells another. -/

namespace Sys2Proof

/-- The identity of a claim: its source kind and source key (R80). -/
inductive ClaimId where
  | notice
  | hazard (p : PathRef)
  | weather (rule : Nat)
  | operator
  | gate (g : GateId)
  | gateAhead
deriving DecidableEq, Repr

/-- The name of one claim record as a panel keeps it: identity, descriptor and placement time (R83, R99). -/
structure ClaimRef where
  id         : ClaimId
  descriptor : Nat
  placed     : Nat
deriving DecidableEq, Repr

/-- What the Claim Unit gives a Panel Driver for a lead: the claim, its message text and its flash flag (R83, R101). -/
structure Lead where
  claim : ClaimRef
  text  : List Byte
  flash : Bool
deriving DecidableEq, Repr

/-- What a gate asks of the Claim Unit for its GATE claims (R56, R92). -/
inductive GateAsk where
  | place | withdraw
deriving DecidableEq, Repr

/-- The cause of a change to a notice record, as the Hazard Unit is told it (R25). -/
inductive ChangeCause where
  | received | order | hazardOwn | expiry | eviction | purge
deriving DecidableEq, Repr

/-- The report of a change to an own path-tagged record (R25): `before` is absent where the record was not held, `after`
is absent where it has left the table and otherwise gives state and level. -/
structure ChangeReport where
  tag    : Nat
  key    : NoticeKey
  before : Option NoticeState
  after  : Option (NoticeState × Nat)
  cause  : ChangeCause
deriving DecidableEq, Repr

/-- One action of an order bundle, its fields as the body carries them (R33, 13.2). -/
inductive OrderAction where
  | issue (kind cause first last remaining : Nat) (message : Option Nat)
  | amend (origin number kind first last remaining : Nat) (message : Option Nat)
  | lift (origin number : Nat)
  | post (panel descriptor priority duration : Nat)
  | clearPost (panel : Nat)
  | holdOpen (gate : Nat)
  | holdClosed (gate : Nat)
  | release (gate : Nat)
  | forceClose (gate : Nat)
  | clearFault (object : Nat)
  | restart
deriving DecidableEq, Repr

/-- The commands, one for each row of the table. The order-action rows carry the requested level of a bundle that holds
that one action; ORDER carries the body of a whole bundle. -/
inductive Instr where
  /-- RESET (R186). -/
  | reset
  /-- LOADING_ENTRY (R186). -/
  | loadingEntry
  /-- LOADING_END (R187), with the image as it was read. -/
  | loadingEnd (image : Image)
  /-- SETTLE_END (R189). -/
  | settleEnd
  /-- NOTICE_FRAME_TAKEN (R6). -/
  | noticeFrameTaken
  /-- NOTICE_EXPIRY (R19). -/
  | noticeExpiry
  /-- TOMBSTONE_PURGE (R20). -/
  | tombstonePurge
  /-- REFRESH_TICK (R27). -/
  | refreshTick
  /-- CATCH_UP (R28). -/
  | catchUp
  /-- ISSUE (R39). -/
  | issue (level kind cause first last remaining : Nat) (message : Option Nat)
  /-- AMEND (R40). -/
  | amend (level origin number kind first last remaining : Nat) (message : Option Nat)
  /-- LIFT (R41). -/
  | lift (level origin number : Nat)
  /-- POST (R42). -/
  | post (level panel descriptor priority duration : Nat)
  /-- CLEAR_POST (R43). -/
  | clearPost (level panel : Nat)
  /-- HOLD_OPEN (R44). -/
  | holdOpen (level gate : Nat)
  /-- HOLD_CLOSED (R44). -/
  | holdClosed (level gate : Nat)
  /-- RELEASE (R44). -/
  | release (level gate : Nat)
  /-- FORCE_CLOSE (R45). -/
  | forceClose (level gate : Nat)
  /-- CLEAR_FAULT (R46). -/
  | clearFault (level object : Nat)
  /-- RESTART (R47). -/
  | restart (level : Nat)
  /-- STATUS (R183). -/
  | status
  /-- READ_NOTICE_BY_SLOT (R31). -/
  | readNoticeBySlot (slot : Nat)
  /-- READ_NOTICE_BY_KEY (R31). -/
  | readNoticeByKey (origin number : Nat)
  /-- READ_SECTION_MAP_ENTRY (R31). -/
  | readSectionMapEntry (sec : Nat)
  /-- READ_PEER_ENTRY (R161). -/
  | readPeerEntry (entry : Nat)
  /-- READ_LOCAL_PATH (R150). -/
  | readLocalPath (index : Nat)
  /-- READ_REMOTE_PATH (R150). -/
  | readRemotePath (index : Nat)
  /-- READ_RING_RECORD (R127). -/
  | readRingRecord (place : Nat)
  /-- READ_SENSOR_ROLE (R127); 0 to 4 name a role, 0x80 plus a list position names a NONE entry. -/
  | readSensorRole (code : Nat)
  /-- READ_DESCRIPTOR (R97). -/
  | readDescriptor (descriptor : Nat)
  /-- READ_PANEL (R112). -/
  | readPanel (panel : Nat)
  /-- READ_GATE (R74). -/
  | readGate (gate : Nat)
  /-- READ_LATCHES (R180). -/
  | readLatches
  /-- READ_COUNTERS (R171). -/
  | readCounters
  /-- CLEAR_LATCHES (R178), with the input mask and the station fault latch mask. -/
  | clearLatches (inputs faults : Word16)
  /-- CLEAR_COUNTERS (R185). -/
  | clearCounters
  /-- UNKNOWN_REQUEST (R183). -/
  | unknownRequest
  /-- SERVICE_PORT_CHARACTER (R181), with its framing and parity error marks. -/
  | servicePortCharacter (c : Byte) (framingError parityError : Bool)
  /-- REQUEST_GAP_TIMEOUT (R181). -/
  | requestGapTimeout
  /-- RESPONSE_COMPLETE (R182). -/
  | responseComplete
  /-- DEMAND_REEVALUATION (R53). -/
  | demandReevaluation (g : GateId)
  /-- PRE_WARNING_EXPIRY (R59). -/
  | preWarningExpiry (g : GateId)
  /-- SHOWN_DURATION_REACHED (R57). -/
  | shownDurationReached (g : GateId) (p : Panel)
  /-- LEAD_STATE_REPORT (R57). -/
  | leadStateReport (p : Panel)
  /-- MOTION_LIMIT_EXPIRY (R61). -/
  | motionLimitExpiry (g : GateId)
  /-- BEAM_CLEAR_TIME_EXPIRY (R67). -/
  | beamClearTimeExpiry (g : GateId)
  /-- FLASHER_PHASE (R51). -/
  | flasherPhase (g : GateId)
  /-- NOTICE_CLAIM (R86). -/
  | noticeClaim
  /-- HAZARD_CLAIM (R87). -/
  | hazardClaim
  /-- WEATHER_RULE_EVALUATION (R89). -/
  | weatherRuleEvaluation
  /-- POST_END (R91). -/
  | postEnd
  /-- GATE_CLAIM_REQUEST (R92). -/
  | gateClaimRequest (g : GateId) (ask : GateAsk)
  /-- GATE_AHEAD_CLAIM (R93), with the sender whose entry has changed. -/
  | gateAheadClaim (sender : Nat)
  /-- FIELD_REFORMAT (R94). -/
  | fieldReformat (p : Panel)
  /-- ACCESSED_MARK (R78). -/
  | accessedMark (descriptor : Nat)
  /-- RENDER_TRIGGER (R101), with the lead the Claim Unit gives or none. -/
  | renderTrigger (p : Panel) (lead : Option Lead)
  /-- RENDER_COMPLETE (R102). -/
  | renderComplete (p : Panel)
  /-- FRAME_START (R103). -/
  | frameStart (p : Panel)
  /-- FLASH_PERIOD_EXPIRY (R107). -/
  | flashPeriodExpiry (p : Panel)
  /-- LAMP_CHECK_SAMPLE (R108). -/
  | lampCheckSample (p : Panel)
  /-- BRIGHTNESS_EVALUATION (R106), with the new filtered LIGHT value. -/
  | brightnessEvaluation (p : Panel) (light : Int)
  /-- SCAN_START (R115). -/
  | scanStart
  /-- SCAN_COMPLETE (R116), with the raw value of each entry in list order. -/
  | scanComplete (raws : List Raw)
  /-- SLIDE_PULSE (R123). -/
  | slidePulse
  /-- HOURLY_APPEND (R124). -/
  | hourlyAppend
  /-- HAZARD_COMPUTATION (R131). -/
  | hazardComputation
  /-- AUTOMATIC_ISSUE (R144). -/
  | automaticIssue (path : Nat)
  /-- AUTOMATIC_LIFT (R146). -/
  | automaticLift (path : Nat)
  /-- NOTICE_CHANGE_REPORT (R147). -/
  | noticeChangeReport (r : ChangeReport)
  /-- EFFECTIVE_LEVEL_RECOMPUTE (R143). -/
  | effectiveLevelRecompute
  /-- BULLETIN_TIME (R152). -/
  | bulletinTime
  /-- BULLETIN_FRAME_TAKEN (R154). -/
  | bulletinFrameTaken
  /-- PERIOD_BOUNDARY (R157), of one entry of the peer table. -/
  | periodBoundary (entry : Nat)
  /-- LINE_CHARACTER_RECEIVED (R164), with its framing error mark. -/
  | lineCharacterReceived (c : Byte) (framingError : Bool)
  /-- RECEIVE_GAP_TIMEOUT (R164). -/
  | receiveGapTimeout
  /-- TRANSMIT_START (R169). -/
  | transmitStart
  /-- TRANSMIT_CHARACTER_END (R170). -/
  | transmitCharacterEnd
  /-- TERMINAL_LEVEL_CHANGE (R174), with the input and its new level, active or not. -/
  | terminalLevelChange (input : Nat) (active : Bool)
  /-- DEBOUNCE_EXPIRY (R174). -/
  | debounceExpiry (input : Nat)
  /-- LATCH_SET_REQUEST (R176). -/
  | latchSetRequest (latch : FaultLatch)
  /-- ORDER (R33), with the body of the request. -/
  | order (body : List Byte)
  /-- LINE_BUSY (R169). -/
  | lineBusy
deriving DecidableEq, Repr

end Sys2Proof
end

