-- ==== Sys2Proof/Decode.lean ====
section
/-! DEFINITION. The decoding of a word of spec/opcode_table.json. No row of that table gives bits: the commands of the
station are events, the actions of an ORDER body and the requests of the service port, and what the manual encodes of them
(13.1, 13.2) has no fixed word. So no word spells a command here (log 15); the layouts of Chapter 13 are decoded in
`Machine/Operands.lean`. -/

namespace Sys2Proof

/-- The command that a word of `nbits` bits spells by the bits of the table: none, since no row has bits. -/
def decodeTableWord (_nbits _w : Nat) : Option Instr := none

end Sys2Proof
end

