-- ==== Sys2Proof/Machine/State.lean ====
section
/-! DEFINITION. The state of the station: every record, table, queue, image, counter, latch, timer and pin the manual
gives it, block by block, the queue of waiting commands, and the messages one block has for another. Times marked "clock"
are station-clock times in microseconds; times marked "minute" are station-clock minutes. -/

namespace Sys2Proof.Machine

/-! ## Chapter 1: the Notice Engine -/

/-- The carried fields of a notice record (R1). -/
structure Notice where
  origin   : Nat
  number   : Nat
  version  : Nat
  amender  : Nat
  state    : NoticeState
  kind     : NoticeKind
  cause    : Cause
  level    : Nat
  firstSec : Nat
  lastSec  : Nat
  message  : Option Nat
  pathTag  : Option Nat
deriving DecidableEq, Repr

/-- A notice record: the carried fields and the local fields but for the slot, which is the record's place in the table
(R2). Times are minutes. -/
structure NoticeRecord where
  notice    : Notice
  expiry    : Option Nat
  heard     : Nat
  bestHop   : Nat
  stamp     : Nat
  early     : Bool
  tombstone : Option Nat
deriving DecidableEq, Repr

/-- An entry of the section map; `kind` is `none` for NONE (R30). -/
structure MapEntry where
  kind      : Option NoticeKind := none
  governing : Option NoticeKey := none
deriving DecidableEq, Repr

/-- The Notice Engine (R3, R22, R26, R28, R30). -/
structure Engine where
  /-- The notice table: 32 slots, each free or holding a record. -/
  table      : List (Option NoticeRecord)
  /-- The section map: 32 entries. -/
  map        : List MapEntry
  /-- The next-number counter. -/
  nextNumber : Nat
  catchUp    : Bool
  /-- The pending set of catch-up. -/
  pendingSet : List NoticeKey
  /-- When the next refresh tick comes (clock); absent while the timer does not run. -/
  tickAt     : Option Nat
deriving DecidableEq, Repr

/-! ## Chapter 3: the Gate Controllers -/

/-- A gate record's working state, its outputs, and the start of its flasher cycle (R49, R51). -/
structure Gate where
  mode       : GateMode
  holdLevel  : Option Nat
  state      : GateState
  demand     : Demand
  retreats   : Nat
  bypass     : Bool
  settleHold : Bool
  signWait   : Bool
  cause      : Option GateFault
  /-- WARNING entry time (clock). -/
  warnEntry  : Option Nat
  /-- The motion timer: when the current leg began (clock), absent while it is stopped. -/
  motion     : Option Nat
  /-- The beam clear timer: when it started (clock), absent while it is stopped. -/
  clear      : Option Nat
  /-- Whether the gate holds GATE claims it has asked for and not yet asked to withdraw (R56). -/
  claims     : Bool
  /-- When the flasher cycle last started in the on phase (clock). -/
  flashFrom  : Nat
  lower      : Bool
  raise      : Bool
  flasher    : Bool
deriving DecidableEq, Repr

/-! ## Chapter 4: the Claim Unit -/

/-- A descriptor table entry as the station holds it (R76, R78). -/
structure Descriptor where
  cfg      : DescriptorCfg
  present  : Bool
  accessed : Bool
deriving DecidableEq, Repr

/-- A claim record (R80): level and end time are held by OPERATOR claims only. -/
structure Claim where
  id         : ClaimId
  descriptor : Nat
  priority   : Nat
  placed     : Nat
  level      : Option Nat := none
  endTime    : Option Nat := none
deriving DecidableEq, Repr

/-- A display stack, lead first (R81), and the text last handed to the Panel Driver for its lead (R94). -/
structure Stack where
  claims : List Claim
  handed : Option (List Byte)
deriving DecidableEq, Repr

/-! ## Chapter 5: the Panel Drivers -/

/-- The states of a panel (R104). -/
inductive PanelState where
  | dark | showing | fault
deriving DecidableEq, Repr

/-- The phases of a flashing lead (R107). -/
inductive FlashPhase where
  | shown | blank
deriving DecidableEq, Repr

/-- The state of the render operation; a running render holds when it began (clock) (R102). -/
inductive Render where
  | idle
  | running (began : Nat)
  | ready
deriving DecidableEq, Repr

/-- Why a panel is in FAULT (R99). -/
inductive PanelFault where
  | rowOpen
deriving DecidableEq, Repr

/-- One line of a laid-out text: its top pixel row, its left character cell and its codes (R100). -/
structure PlacedLine where
  top   : Nat
  left  : Nat
  codes : List Byte
deriving DecidableEq, Repr

/-- An image: the claim it renders, or none for blank, that claim's flash flag, and the laid-out lines that with the
glyphs of the Panel Driver give every pixel (R99, R100; log 5). -/
structure PanelImage where
  claim : Option ClaimRef := none
  flash : Bool := false
  lines : List PlacedLine := []
deriving DecidableEq, Repr

/-- A panel record (R99) with the position of its scan (R105). -/
structure PanelRec where
  state       : PanelState
  front       : PanelImage
  back        : PanelImage
  render      : Render
  pendingLead : Option Lead
  /-- Lead-shown time (clock). -/
  leadShown   : Option Nat
  phase       : FlashPhase
  /-- From when the current flash period is timed (clock). -/
  phaseFrom   : Nat
  /-- The current flash period has run and the phase changes at the next frame start. -/
  phaseDue    : Bool
  step        : Nat
  /-- The miss counts of rows 0 to 15. -/
  misses      : List Nat
  cause       : Option PanelFault
  faultRow    : Option Nat
  /-- When the current frame started (clock), absent before the first frame start. -/
  frameAt     : Option Nat
  /-- Whether the driven image of the current frame is the front image; otherwise it is blank. -/
  driven      : Bool
  /-- The brightness step whose on-time the current row slot uses (R105). -/
  slotStep    : Nat
  /-- Whether the current slot's row has been sampled (R108). -/
  sampled     : Bool
deriving DecidableEq, Repr

/-! ## Chapter 6: the Acquisition Unit -/

/-- The validity of a role (R114). -/
inductive Validity where
  | notConfigured | unmeasured | valid | failed
deriving DecidableEq, Repr

/-- A role record (R114); `invalidSince` is a clock time. -/
structure RoleRec where
  validity     : Validity
  filtered     : Option Int
  raw          : Option Nat
  faults       : Nat
  invalidSince : Option Nat
deriving DecidableEq, Repr

/-- An hour record (R124). -/
structure HourRec where
  hour     : Nat
  depth    : Option Int
  air      : Option Int
  activity : Nat
deriving DecidableEq, Repr

/-- The Acquisition Unit (R114, R116, R122, R123, R125). -/
structure Acquisition where
  roles      : PerRole RoleRec
  /-- The last raw value kept for each list position whose entry has the role NONE. -/
  spare      : List (Option Nat)
  running    : Nat
  /-- The hourly ring, oldest first. -/
  ring       : List HourRec
  /-- When the running scan started (clock), absent while none runs. -/
  scan       : Option Nat
  /-- The next scan time (clock). -/
  nextScan   : Option Nat
deriving DecidableEq, Repr

/-! ## Chapter 7: the Hazard Unit -/

/-- The request a path has made to the Notice Engine and not had answered; a lift names its record (R130). -/
inductive Request where
  | none
  | issue
  | lift (key : NoticeKey)
deriving DecidableEq, Repr

/-- A local path record (R130): the index, the inputs and terms of the latest computation, and the level. -/
structure PathRec where
  index        : Nat
  snow         : Nat
  windExcess   : Nat
  warming      : Nat
  activity     : Nat
  termN        : Nat
  termW        : Nat
  termT        : Nat
  termA        : Nat
  level        : Level
  /-- Hold start (minute). -/
  holdStart    : Option Nat
  degraded     : Bool
  inhibited    : Bool
  issuePending : Bool
  request      : Request
  issuedKey    : Option NoticeKey
  effective    : Level
deriving DecidableEq, Repr

/-- The Hazard Unit: the new-snow figure, the local path records by index, and the effective levels of the remote paths. -/
structure Hazard where
  newSnow : Nat
  paths   : List PathRec
  remotes : List Level
deriving DecidableEq, Repr

/-! ## Chapter 8: the Bulletin Unit -/

/-- A path report of a bulletin (R152). -/
structure PathReport where
  number : Nat
  level  : Level
  index  : Nat
deriving DecidableEq, Repr

/-- A gate report of a bulletin (R152). -/
structure GateReport where
  gate    : GateId
  guarded : Nat
  entry   : Direction
  state   : GateState
deriving DecidableEq, Repr

/-- The contents of a bulletin (R152); a value is absent where it is invalid. -/
structure Bulletin where
  home       : Nat
  settling   : Bool
  degraded   : Bool
  panelFault : Bool
  gateFault  : Bool
  road       : Option Int
  air        : Option Int
  wind       : Option Int
  snow       : Option Int
  inForce    : Nat
  paths      : List PathReport
  gates      : List GateReport
deriving DecidableEq, Repr

/-- A peer entry in use (R155); `received` is a clock time. -/
structure Peer where
  sender   : Nat
  bulletin : Bulletin
  received : Nat
  missed   : Nat
  present  : Bool
deriving DecidableEq, Repr

/-- The Bulletin Unit (R151, R155, R160). -/
structure BulletinUnit where
  /-- The next bulletin time (clock). -/
  nextAt    : Option Nat
  /-- The peer table: 16 entries. -/
  peers     : List (Option Peer)
  malformed : Nat
  tableFull : Nat
deriving DecidableEq, Repr

/-! ## Chapter 9: the Line Interface -/

/-- The purposes of a notice frame (R13). -/
inductive Purpose where
  | originated | relay | refresh
deriving DecidableEq, Repr

/-- The content of a queued frame as built (R14, R152, R166). -/
inductive Content where
  | notice (n : Notice) (remaining : Nat) (purpose : Purpose)
  | bulletin (b : Bulletin)
deriving DecidableEq, Repr

/-- A frame of the transmit queue (R166). -/
structure Frame where
  content  : Content
  hop      : Nat
  attempts : Nat
  slot     : Nat
deriving DecidableEq, Repr

/-- A transmission (R170): the started frame, its characters, the place of the character on the line, the millionths of a
bit-time since its start bit began, what has been read back of it with its framing error mark, and whether a withdrawal has
found the frame started (R168). -/
structure Sending where
  frame     : Frame
  chars     : List Byte
  pos       : Nat
  sent      : Nat
  readback  : Option (Byte × Bool)
  withdrawn : Bool
deriving DecidableEq, Repr

/-- The transmitter (R169); the count of quiet bit-times in WAIT_GAP is held in millionths of a bit-time. -/
inductive Transmitter where
  | idle
  | waitGap (quiet : Nat)
  | sending (x : Sending)
deriving DecidableEq, Repr

/-- The receiver (R164): HUNT with whether the last character was a first sync, HEADER, BODY and CHECK with what has been
gathered. -/
inductive Receiver where
  | hunt (synced : Bool)
  | header (got : List Byte)
  | body (head got : List Byte)
  | check (head content got : List Byte)
deriving DecidableEq, Repr

/-- A received frame in an inbox (R165). -/
structure RxFrame where
  sender : Nat
  hop    : Nat
  body   : List Byte
deriving DecidableEq, Repr

/-- The nine line counters (R171). -/
structure LineCounters where
  good       : Nat
  crc        : Nat
  truncated  : Nat
  collisions : Nat
  abandoned  : Nat
  drops      : Nat
  suppressed : Nat
  malformed  : Nat
  stale      : Nat
deriving DecidableEq, Repr

/-- The Line Interface (R164 to R171). The transmit queue is the frame of a transmission and the waiting frames. -/
structure Line where
  rx            : Receiver
  /-- What is left of the character arriving on RXD, in millionths of a bit-time; 0 while none arrives. -/
  rxBusy        : Nat
  /-- Quiet time since the last character, in millionths of a bit-time. -/
  rxGap         : Nat
  noticeInbox   : List RxFrame
  bulletinInbox : List RxFrame
  tx            : Transmitter
  /-- The unstarted frames in their order. -/
  waiting       : List Frame
  counters      : LineCounters
deriving DecidableEq, Repr

/-! ## Chapter 10: the Field Input Unit -/

/-- An input record (R173): its configuration and its working state. `timer` is when the debounce timer started (clock),
absent while it is stopped. -/
structure Input where
  cfg       : InputCfg
  terminal  : Bool
  debounced : Bool
  timer     : Option Nat
  latch     : Bool
deriving DecidableEq, Repr

/-! ## Chapter 11: the Service Port -/

/-- The states of the port (R182): RECEIVING holds the characters since the start character and the microseconds since
the last one; SERVING holds the request; RESPONDING holds the response frame and what is left to send of it, in millionths
of a bit-time. -/
inductive PortState where
  | idle
  | receiving (got : List Byte) (gap : Nat)
  | serving (request : Instr)
  | responding (frame : List Byte) (left : Nat)
deriving DecidableEq, Repr

/-- The Service Port (R181, R182) and whether the response being sent ends a RESTART (R47). -/
structure Port where
  state   : PortState
  overrun : Nat
  rate    : Nat
  parity  : Bool
  restart : Bool
deriving DecidableEq, Repr

/-! ## The station -/

/-- What stops the machine. The manual gives the station no event that stops it: a wrong image leaves it in UNCONFIGURED,
a gate or a panel in FAULT goes on taking events, and a request that cannot be served is answered. So no command faults
and this type has no value (safe: no claim can rest on a fault). -/
inductive Fault where
deriving DecidableEq, Repr

/-- Why a command has no meaning. -/
inductive Refusal where
  /-- Raised by an arm of `exec` whose command has no meaning yet (safe: the machine stops where the station goes on). -/
  | notModelled (mnemonic : String)
deriving DecidableEq, Repr

/-- The whole state of the station. -/
structure State where
  /-- The commands waiting to be taken, first in, first out (the model's own). -/
  pending  : List Instr
  /-- Commands the station raises itself: what a block tells another, and its own timers that have run out, oldest first,
  until they are taken (the model's own; log 2). -/
  told     : List Instr
  startUp  : StartUp
  failure  : Option FailureCause
  settling : Bool
  /-- The station clock in microseconds since RUNNING was entered. -/
  clock    : Nat
  cfg      : StationCfg
  /-- The descriptor table (R76): 64 entries. -/
  store    : List Descriptor
  engine   : Engine
  gates    : PerGate Gate
  displays   : PerPanel Stack
  /-- The states of the weather rules 0 to 7, set for ACTIVE (R88). -/
  rules    : List Bool
  panels   : PerPanel PanelRec
  acq      : Acquisition
  hazard   : Hazard
  bulletin : BulletinUnit
  line     : Line
  /-- The input records of FI0 to FI15. -/
  inputs   : List Input
  /-- The station fault latches in the bit order of CLEAR_LATCHES (R176). -/
  faults   : List Bool
  /-- The ATTENTION output (R177). -/
  attention : Bool
  port     : Port
deriving DecidableEq, Repr

/-! ## Reset values -/

/-- The Notice Engine after reset (R3, R22, R26, R29, R30). -/
def Engine.reset : Engine where
  table := List.replicate 32 none
  map := List.replicate 32 {}
  nextNumber := 0
  catchUp := false
  pendingSet := []
  tickAt := none

/-- A gate after reset (R51, R72): mode AUTO, all outputs off. The state and the demand before RUNNING entry are the
model's choice (log 6). -/
def Gate.reset : Gate where
  mode := .auto
  holdLevel := none
  state := .opened
  demand := .opening
  retreats := 0
  bypass := false
  settleHold := false
  signWait := false
  cause := none
  warnEntry := none
  motion := none
  clear := none
  claims := false
  flashFrom := 0
  lower := false
  raise := false
  flasher := false

/-- A descriptor entry before an image is loaded (R76; log 6). -/
def Descriptor.reset : Descriptor where
  cfg := {}
  present := false
  accessed := false

/-- A stack after reset (R84). -/
def Stack.reset : Stack where
  claims := []
  handed := none

/-- A panel record after reset (R99). -/
def PanelRec.reset : PanelRec where
  state := .dark
  front := {}
  back := {}
  render := .idle
  pendingLead := none
  leadShown := none
  phase := .shown
  phaseFrom := 0
  phaseDue := false
  step := 0
  misses := List.replicate 16 0
  cause := none
  faultRow := none
  frameAt := none
  driven := false
  slotStep := 0
  sampled := false

/-- A role record after reset (R126). -/
def RoleRec.reset : RoleRec where
  validity := .notConfigured
  filtered := none
  raw := none
  faults := 0
  invalidSince := none

/-- The Acquisition Unit after reset (R126). -/
def Acquisition.reset : Acquisition where
  roles := ⟨RoleRec.reset, RoleRec.reset, RoleRec.reset, RoleRec.reset, RoleRec.reset⟩
  spare := List.replicate 12 none
  running := 0
  ring := []
  scan := none
  nextScan := none

/-- A local path record after reset (R130). -/
def PathRec.reset : PathRec where
  index := 0
  snow := 0
  windExcess := 0
  warming := 0
  activity := 0
  termN := 0
  termW := 0
  termT := 0
  termA := 0
  level := .quiet
  holdStart := none
  degraded := false
  inhibited := false
  issuePending := false
  request := .none
  issuedKey := none
  effective := .quiet

/-- The Hazard Unit after reset (R130). -/
def Hazard.reset : Hazard where
  newSnow := 0
  paths := List.replicate 4 PathRec.reset
  remotes := List.replicate 4 .quiet

/-- The Bulletin Unit after reset (R151, R155, R160). -/
def BulletinUnit.reset : BulletinUnit where
  nextAt := none
  peers := List.replicate 16 none
  malformed := 0
  tableFull := 0

/-- The line counters after reset or a CLEAR_COUNTERS request (R171). -/
def LineCounters.zero : LineCounters where
  good := 0
  crc := 0
  truncated := 0
  collisions := 0
  abandoned := 0
  drops := 0
  suppressed := 0
  malformed := 0
  stale := 0

/-- The Line Interface after reset (R172). -/
def Line.reset : Line where
  rx := .hunt false
  rxBusy := 0
  rxGap := 0
  noticeInbox := []
  bulletinInbox := []
  tx := .idle
  waiting := []
  counters := LineCounters.zero

/-- An input record before an image is loaded, with its terminal level (R180; log 6). -/
def Input.reset (terminal : Bool) : Input where
  cfg := {}
  terminal := terminal
  debounced := false
  timer := none
  latch := false

/-- The Service Port after reset (R181, R182): IDLE, at 9600 bit/s without parity. -/
def Port.reset : Port where
  state := .idle
  overrun := 0
  rate := 9600
  parity := false
  restart := false

/-- The machine right after reset: every block at the reset values its chapter gives, in RESET_HELD (R186). -/
def State.reset : State where
  pending := []
  told := []
  startUp := .resetHeld
  failure := none
  settling := false
  clock := 0
  cfg := {}
  store := List.replicate 64 Descriptor.reset
  engine := Engine.reset
  gates := ⟨Gate.reset, Gate.reset⟩
  displays := ⟨Stack.reset, Stack.reset, Stack.reset⟩
  rules := List.replicate 8 false
  panels := ⟨PanelRec.reset, PanelRec.reset, PanelRec.reset⟩
  acq := Acquisition.reset
  hazard := Hazard.reset
  bulletin := BulletinUnit.reset
  line := Line.reset
  inputs := List.replicate 16 (Input.reset false)
  faults := List.replicate 14 false
  attention := false
  port := Port.reset

end Sys2Proof.Machine
end

