-- ==== Sys2Proof/Machine/Ops.lean ====
section
/-! DEFINITION. Named operations that every chapter uses: the parts of a panel, gate or role collection, the station clock
in the manual's units, the messages between blocks, saturating counters, and the frame of a meaning. -/

namespace Sys2Proof

/-- The part of a panel collection that belongs to a panel. -/
def PerPanel.get {α : Type} (x : PerPanel α) : Panel → α
  | .a => x.a
  | .b => x.b
  | .c => x.c

/-- A panel collection with one part replaced. -/
def PerPanel.set {α : Type} (x : PerPanel α) : Panel → α → PerPanel α
  | .a, v => { x with a := v }
  | .b, v => { x with b := v }
  | .c, v => { x with c := v }

/-- The part of a gate collection that belongs to a gate. -/
def PerGate.get {α : Type} (x : PerGate α) : GateId → α
  | .g0 => x.g0
  | .g1 => x.g1

/-- A gate collection with one part replaced. -/
def PerGate.set {α : Type} (x : PerGate α) : GateId → α → PerGate α
  | .g0, v => { x with g0 := v }
  | .g1, v => { x with g1 := v }

/-- The part of a role collection that belongs to a role. -/
def PerRole.get {α : Type} (x : PerRole α) : Role → α
  | .roadTemp => x.roadTemp
  | .airTemp => x.airTemp
  | .wind => x.wind
  | .snowDepth => x.snowDepth
  | .light => x.light

/-- A role collection with one part replaced. -/
def PerRole.set {α : Type} (x : PerRole α) : Role → α → PerRole α
  | .roadTemp, v => { x with roadTemp := v }
  | .airTemp, v => { x with airTemp := v }
  | .wind, v => { x with wind := v }
  | .snowDepth, v => { x with snowDepth := v }
  | .light, v => { x with light := v }

/-- The panels in panel order A, B, C (R92). -/
def Panel.all : List Panel := [.a, .b, .c]

/-- The gates, Gate 0 first (R152). -/
def GateId.all : List GateId := [.g0, .g1]

/-- The roles in the role order of READ class 8 (13.2). -/
def Role.all : List Role := [.roadTemp, .airTemp, .wind, .snowDepth, .light]

/-- The panel coded 0 A, 1 B, 2 C (R190). -/
def Panel.ofCode : Nat → Option Panel
  | 0 => some .a
  | 1 => some .b
  | 2 => some .c
  | _ => none

/-- The code of a panel (R190). -/
def Panel.code : Panel → Nat
  | .a => 0
  | .b => 1
  | .c => 2

/-- The gate of an index 0 or 1. -/
def GateId.ofCode : Nat → Option GateId
  | 0 => some .g0
  | 1 => some .g1
  | _ => none

/-- The index of a gate. -/
def GateId.code : GateId → Nat
  | .g0 => 0
  | .g1 => 1

/-- A role's place in the role order of READ class 8. -/
def Role.code : Role → Nat
  | .roadTemp => 0
  | .airTemp => 1
  | .wind => 2
  | .snowDepth => 3
  | .light => 4

/-- The role of a code of READ class 8. -/
def Role.ofCode : Nat → Option Role
  | 0 => some .roadTemp
  | 1 => some .airTemp
  | 2 => some .wind
  | 3 => some .snowDepth
  | 4 => some .light
  | _ => none

/-- The rank of a path level, QUIET lowest (R130). -/
def Level.rank : Level → Nat
  | .quiet => 0
  | .watch => 1
  | .warn => 2
  | .close => 3

/-- The higher of two path levels (R142). -/
def Level.max (x y : Level) : Level :=
  if x.rank < y.rank then y else x

end Sys2Proof

namespace Sys2Proof.Machine

/-! ## The station clock -/

/-- The microseconds of a second. -/
def secondUs : Nat := 1000000

/-- The microseconds of a station-clock minute. -/
def minuteUs : Nat := 60000000

/-- The microseconds of an hour of the station clock. -/
def hourUs : Nat := 3600000000

/-- One bit-time in the unit in which the model holds line and port times: a millionth of a bit-time. -/
def bitUnit : Nat := 1000000

/-- The current minute: whole minutes of the station clock (R2). -/
def State.minute (s : State) : Nat := s.clock / minuteUs

/-- The hour number (R124). -/
def State.hour (s : State) : Nat := s.clock / hourUs

/-- The clock stands at a minute boundary; the first is at the end of minute 0 (R19, R89, R131). -/
def State.atMinute (s : State) : Bool := s.clock != 0 && s.clock % minuteUs == 0

/-- The clock stands at an hour boundary; the first is at the end of minute 59 (R124). -/
def State.atHour (s : State) : Bool := s.clock != 0 && s.clock % hourUs == 0

/-- The station's bulletin period in microseconds (R151). -/
def State.periodUs (s : State) : Nat := s.cfg.bulletinPeriod * secondUs

/-- The station is RUNNING (R186). -/
def State.running (s : State) : Bool := s.startUp == .running

/-- A time measured from `start` for `duration` has run at `now`. -/
def hasRun (now start duration : Nat) : Bool := start + duration ≤ now

/-! ## Messages between blocks -/

/-- A block tells another: the messages join the ones not yet taken. -/
def State.tell (s : State) (cs : List Instr) : State := { s with told := s.told ++ cs }

/-- A command that is taken is no longer waiting among the messages. -/
def State.take (s : State) (c : Instr) : State := { s with told := s.told.erase c }

/-- The frame of a meaning that a block takes only while the station is RUNNING: the message is taken, and in any other
start-up state the block holds its reset state and nothing else comes about (R72, R84, R99, R126, R130, R155, R172). -/
def State.event (s : State) (c : Instr) (f : State → State) : Host.Outcome State Fault Refusal :=
  .next (if (s.take c).running then f (s.take c) else s.take c)

/-- A reset (R186): every block takes the reset values of its chapter, and the station is in RESET_HELD. The waiting
commands are outside the station, and a terminal keeps the level it has (log 7). -/
def State.doReset (s : State) : State :=
  { State.reset with pending := s.pending, inputs := s.inputs.map fun x => Input.reset x.terminal }

/-! ## Saturating counters -/

/-- A counter of 0 to 65535 raised by one (R160, R171, R182). -/
def bump (n : Nat) : Nat := if n < 65535 then n + 1 else 65535

/-! ## Replacing a part of the state -/

/-- The state with one gate record replaced. -/
def State.setGate (s : State) (g : GateId) (x : Gate) : State := { s with gates := s.gates.set g x }

/-- The state with one panel record replaced. -/
def State.setPanel (s : State) (p : Panel) (x : PanelRec) : State := { s with panels := s.panels.set p x }

/-- The state with one display stack replaced. -/
def State.setStack (s : State) (p : Panel) (x : Stack) : State := { s with displays := s.displays.set p x }

/-- The state with one input record replaced. -/
def State.setInput (s : State) (i : Nat) (x : Input) : State := { s with inputs := s.inputs.set i x }

/-- The state with one local path record replaced. -/
def State.setPath (s : State) (i : Nat) (x : PathRec) : State :=
  { s with hazard := { s.hazard with paths := s.hazard.paths.set i x } }

/-- The state with the line counters replaced. -/
def State.count (s : State) (f : LineCounters → LineCounters) : State :=
  { s with line := { s.line with counters := f s.line.counters } }

/-- The record of a local path; the reset record for an index above 3. -/
def State.path (s : State) (i : Nat) : PathRec := s.hazard.paths.getD i PathRec.reset

/-- The input records whose role is the given one. -/
def State.inputOf (s : State) (r : InputRole) : Option Input := s.inputs.find? fun x => x.cfg.role == r

/-- The debounced level of the input with a role; a role that no input has reads as inactive (R173). -/
def State.inputLevel (s : State) (r : InputRole) : Bool :=
  match s.inputOf r with
  | some x => x.debounced
  | none => false

end Sys2Proof.Machine
end

