-- ==== Sys2Proof/Machine/Flags.lean ====
section
/-! DEFINITION. The station fault latches, the input latches and the ATTENTION output (R175 to R178). -/

namespace Sys2Proof

/-- The place of a station fault latch in the mask of CLEAR_LATCHES (13.2). -/
def FaultLatch.bit : FaultLatch → Nat
  | .panelFault p => p.code
  | .gateFault g => 3 + g.code
  | .sensorInvalid r => 5 + r.code
  | .duplicateStation => 10
  | .noticeTableFull => 11
  | .autoNoticeRefused => 12
  | .inboxDrop => 13

/-- The station fault latches in the bit order of CLEAR_LATCHES (13.2). -/
def FaultLatch.all : List FaultLatch :=
  [.panelFault .a, .panelFault .b, .panelFault .c, .gateFault .g0, .gateFault .g1,
   .sensorInvalid .roadTemp, .sensorInvalid .airTemp, .sensorInvalid .wind, .sensorInvalid .snowDepth,
   .sensorInvalid .light, .duplicateStation, .noticeTableFull, .autoNoticeRefused, .inboxDrop]

end Sys2Proof

namespace Sys2Proof.Machine

/-- A station fault latch is set. -/
def State.faultSet (s : State) (l : FaultLatch) : Bool := s.faults.getD l.bit false

/-- The attention enable of a station fault latch (R176). -/
def State.faultEnable (s : State) (l : FaultLatch) : Bool := s.cfg.faultEnables.getD l.bit false

/-- Whether the cause of a station fault latch stands (R176). A panel or gate that is not configured, and a role without
an entry, never enters the state that is the cause. -/
def State.causeStands (s : State) : FaultLatch → Bool
  | .panelFault p => (s.panels.get p).state == .fault
  | .gateFault g => (s.gates.get g).state == .fault
  | .sensorInvalid r => (s.acq.roles.get r).validity == .failed
  | .autoNoticeRefused => s.hazard.paths.any (·.issuePending)
  | .duplicateStation => false
  | .noticeTableFull => false
  | .inboxDrop => false

/-- The level ATTENTION takes from the latches and the start-up state (R177): asserted in UNCONFIGURED, negated in
RESET_HELD and LOADING, and in RUNNING asserted while an enabled latch is set. -/
def State.attentionLevel (s : State) : Bool :=
  match s.startUp with
  | .unconfigured => true
  | .running =>
    FaultLatch.all.any (fun l => s.faultSet l && s.faultEnable l) || s.inputs.any (fun x => x.latch && x.cfg.attention)
  | .resetHeld => false
  | .loading => false

/-- ATTENTION follows the latches in the same step (R177). -/
def State.follow (s : State) : State := { s with attention := s.attentionLevel }

/-- A station fault latch is set, and ATTENTION follows (R176, R177). -/
def State.setFault (s : State) (l : FaultLatch) : State := { s with faults := s.faults.set l.bit true }.follow

/-- How many latches are set, input and station fault latches together (R183). -/
def State.latchCount (s : State) : Nat := s.faults.count true + s.inputs.countP (·.latch)

end Sys2Proof.Machine
end

