-- ==== Sys2Proof/Machine/Operands.lean ====
section
/-! DEFINITION. The byte layouts of Chapter 13: how a number, an optional field and a named value are sent and read
(R190), the CRC of both frame types (R163), the pass line frame with its notice and bulletin bodies, the request and
response frames of the service port, and the ORDER body. -/

namespace Sys2Proof.Machine

/-! ## Numbers and optional fields (R190) -/

/-- A number of one byte. -/
def byte (n : Nat) : Byte := BitVec.ofNat 8 n

/-- A number of two bytes, high byte first. -/
def word (n : Nat) : List Byte := [byte (n / 256), byte n]

/-- A number of four bytes, high byte first. -/
def word4 (n : Nat) : List Byte := word (n / 65536) ++ word n

/-- A signed number of two bytes in two's complement, high byte first. -/
def sword (x : Int) : List Byte := word (x % 65536).toNat

/-- An optional number of one byte; absent is 0xFF. -/
def optByte : Option Nat → Byte
  | some n => byte n
  | none => 0xFF#8

/-- An optional unsigned number of two bytes; absent is 0xFFFF. -/
def optWord : Option Nat → List Byte
  | some n => word n
  | none => [0xFF#8, 0xFF#8]

/-- An optional signed number of two bytes; absent is 0x8000. -/
def optSword : Option Int → List Byte
  | some x => sword x
  | none => [0x80#8, 0x00#8]

/-- A flag: 1 for set or yes, 0 for clear or no. -/
def flag (b : Bool) : Byte := if b then 1#8 else 0#8

/-- A set of panels: bit 0 for A, bit 1 for B, bit 2 for C. -/
def panelSet (x : PerPanel Bool) : Byte :=
  byte ((if x.a then 1 else 0) + (if x.b then 2 else 0) + (if x.c then 4 else 0))

/-- The two-byte number of a high and a low byte. -/
def unword (hi lo : Byte) : Nat := hi.toNat * 256 + lo.toNat

/-- The signed two-byte number of a high and a low byte. -/
def unsword (hi lo : Byte) : Int :=
  if unword hi lo < 32768 then (unword hi lo : Int) else (unword hi lo : Int) - 65536

/-- An optional one-byte field as received: 0xFF is absent. -/
def unoptByte (b : Byte) : Option Nat := if b = 0xFF#8 then none else some b.toNat

/-! ## Code tables (13.1, 13.2; otherwise the position in the rule's list, R190) -/

/-- The code of a notice kind. -/
def kindCode : NoticeKind → Nat
  | .fullClosure => 0
  | .convoy => 1
  | .oneLane => 2
  | .chains => 3
  | .advisory => 4

/-- The notice kind of a code. -/
def kindOf : Nat → Option NoticeKind
  | 0 => some .fullClosure
  | 1 => some .convoy
  | 2 => some .oneLane
  | 3 => some .chains
  | 4 => some .advisory
  | _ => none

/-- The code of a cause. -/
def causeCode : Cause → Nat
  | .weather => 0
  | .avalanche => 1
  | .works => 2
  | .incident => 3
  | .seasonal => 4

/-- The cause of a code. -/
def causeOf : Nat → Option Cause
  | 0 => some .weather
  | 1 => some .avalanche
  | 2 => some .works
  | 3 => some .incident
  | 4 => some .seasonal
  | _ => none

/-- The code of a notice state; EXPIRED is never sent on the pass line. -/
def stateCode : NoticeState → Nat
  | .inForce => 0
  | .lifted => 1
  | .expired => 2

/-- The notice state of a code that a frame may carry: EXPIRED makes the body malformed (R7). -/
def stateOf : Nat → Option NoticeState
  | 0 => some .inForce
  | 1 => some .lifted
  | _ => none

/-- The path level of a code. -/
def levelOf : Nat → Option Level
  | 0 => some .quiet
  | 1 => some .watch
  | 2 => some .warn
  | 3 => some .close
  | _ => none

/-- The code of a direction. -/
def directionCode : Direction → Nat
  | .ascending => 0
  | .descending => 1

/-- The direction of a code. -/
def directionOf : Nat → Option Direction
  | 0 => some .ascending
  | 1 => some .descending
  | _ => none

/-- The code of a gate state. -/
def gateStateCode : GateState → Nat
  | .opened => 0
  | .warning => 1
  | .lowering => 2
  | .closed => 3
  | .raising => 4
  | .retreat => 5
  | .waitClear => 6
  | .fault => 7

/-- The gate state of a code. -/
def gateStateOf : Nat → Option GateState
  | 0 => some .opened
  | 1 => some .warning
  | 2 => some .lowering
  | 3 => some .closed
  | 4 => some .raising
  | 5 => some .retreat
  | 6 => some .waitClear
  | 7 => some .fault
  | _ => none

/-! ## The CRC-16 (R163) -/

/-- One bit enters the CRC register: generator x^16 + x^12 + x^5 + 1. -/
def crcBit (c : Word16) (b : Bool) : Word16 :=
  if (c.msb ^^ b) then (c <<< 1) ^^^ 0x1021#16 else c <<< 1

/-- One character enters the CRC register, most significant bit first. -/
def crcByte (c : Word16) (x : Byte) : Word16 :=
  [7, 6, 5, 4, 3, 2, 1, 0].foldl (fun r i => crcBit r (x.getLsbD i)) c

/-- The CRC-16 of a run of characters, initial value 0xFFFF, no reflection and no final inversion. -/
def crc16 (xs : List Byte) : Word16 := xs.foldl crcByte 0xFFFF#16

/-- The two check characters, high byte first. -/
def crcBytes (xs : List Byte) : List Byte := word (crc16 xs).toNat

/-! ## Notice bodies (13.1, R7) -/

/-- The 14 characters of a notice body (13.1). -/
def encodeNotice (n : Notice) (remaining : Nat) : List Byte :=
  [byte n.origin, byte n.number, byte n.version, byte n.amender, byte (stateCode n.state), byte (kindCode n.kind),
   byte (causeCode n.cause), byte n.level, byte n.firstSec, byte n.lastSec, optByte n.message, optByte n.pathTag]
  ++ word remaining

/-- The fields of a received notice body that name a listed kind, cause and state, before the range checks of R7. -/
def readNotice : List Byte → Option (Notice × Nat)
  | [o, n, v, a, st, k, c, l, f, e, m, t, rh, rl] =>
    match stateOf st.toNat, kindOf k.toNat, causeOf c.toNat with
    | some state, some kind, some cause =>
      some (⟨o.toNat, n.toNat, v.toNat, a.toNat, state, kind, cause, l.toNat, f.toNat, e.toNat, unoptByte m,
        unoptByte t⟩, unword rh rl)
    | _, _, _ => none
  | _ => none

/-- The range checks a notice body must pass (R7). -/
def noticeInRange (n : Notice) (remaining : Nat) : Bool :=
  1 ≤ n.origin && n.origin ≤ 60 && 1 ≤ n.amender && n.amender ≤ 60 &&
  n.firstSec ≤ 31 && n.lastSec ≤ 31 && n.firstSec ≤ n.lastSec &&
  n.level ≤ 3 && n.version ≤ 15 && remaining ≤ 10080 &&
  n.message.all (· < 32) && n.pathTag.all (· ≤ 3) &&
  !(n.state == .inForce && n.version == 15)

/-- A good copy and its remaining minutes, or none for a malformed body (R7). -/
def decodeNotice (body : List Byte) : Option (Notice × Nat) :=
  (readNotice body).filter fun x => noticeInRange x.1 x.2

/-! ## Bulletin bodies (13.1, R154) -/

/-- A path report in four characters. -/
def encodePathReport (r : PathReport) : List Byte := [byte r.number, byte r.level.rank] ++ word r.index

/-- A gate report in four characters. -/
def encodeGateReport (r : GateReport) : List Byte :=
  [byte r.gate.code, byte r.guarded, byte (directionCode r.entry), byte (gateStateCode r.state)]

/-- The characters of a bulletin body (13.1). -/
def encodeBulletin (b : Bulletin) : List Byte :=
  [byte b.home,
   byte ((if b.settling then 1 else 0) + (if b.degraded then 2 else 0) + (if b.panelFault then 4 else 0) +
     (if b.gateFault then 8 else 0) + 16 * b.paths.length),
   byte (b.inForce + 64 * b.gates.length)]
  ++ optSword b.road ++ optSword b.air ++ optWord (b.wind.map Int.toNat) ++ [optByte (b.snow.map Int.toNat)]
  ++ b.paths.flatMap encodePathReport ++ b.gates.flatMap encodeGateReport

/-- The path reports at the front of a run of characters, and the characters after them. -/
def readPathReports : Nat → List Byte → Option (List PathReport × List Byte)
  | 0, xs => some ([], xs)
  | k + 1, n :: l :: h :: w :: xs =>
    match levelOf l.toNat, readPathReports k xs with
    | some level, some (rs, rest) =>
      if n.toNat ≤ 63 && unword h w ≤ 1000 then some (⟨n.toNat, level, unword h w⟩ :: rs, rest) else none
    | _, _ => none
  | _ + 1, _ => none

/-- The gate reports at the front of a run of characters, and the characters after them. -/
def readGateReports : Nat → List Byte → Option (List GateReport × List Byte)
  | 0, xs => some ([], xs)
  | k + 1, g :: sec :: d :: st :: xs =>
    match GateId.ofCode g.toNat, directionOf d.toNat, gateStateOf st.toNat, readGateReports k xs with
    | some gate, some entry, some state, some (rs, rest) =>
      if sec.toNat ≤ 31 then some (⟨gate, sec.toNat, entry, state⟩ :: rs, rest) else none
    | _, _, _, _ => none
  | _ + 1, _ => none

/-- A temperature of a bulletin: the outer option is absent where it is out of range (R154). -/
def readTemperature (hi lo : Byte) : Option (Option Int) :=
  if unword hi lo = 0x8000 then some none
  else if -500 ≤ unsword hi lo && unsword hi lo ≤ 500 then some (some (unsword hi lo)) else none

/-- A bulletin's contents, or none for a malformed body (R154). -/
def decodeBulletin : List Byte → Option Bulletin
  | home :: flags :: counts :: rh :: rl :: ah :: al :: wh :: wl :: snow :: reports =>
    let p := flags.toNat / 16 % 8
    let g := counts.toNat / 64
    let inForce := counts.toNat % 64
    let wind : Option (Option Int) :=
      if unword wh wl = 0xFFFF then some none else if unword wh wl ≤ 600 then some (some (unword wh wl : Int)) else none
    let newSnow : Option (Option Int) :=
      if snow = 0xFF#8 then some none else if snow.toNat ≤ 200 then some (some (snow.toNat : Int)) else none
    if home.toNat ≤ 31 && p ≤ 4 && g ≤ 2 && inForce ≤ 32 then
      match readTemperature rh rl, readTemperature ah al, wind, newSnow, readPathReports p reports with
      | some road, some air, some wind, some newSnow, some (paths, rest) =>
        match readGateReports g rest with
        | some (gates, []) =>
          if (gates.map (·.gate)).Nodup then
            some ⟨home.toNat, flags.getLsbD 0, flags.getLsbD 1, flags.getLsbD 2, flags.getLsbD 3, road, air, wind,
              newSnow, inForce, paths, gates⟩
          else none
        | _ => none
      | _, _, _, _, _ => none
    else none
  | _ => none

/-! ## Pass line frames (13.1, R163) -/

/-- The kind character of a frame: 1 BULLETIN, 2 NOTICE. -/
def contentKind : Content → Nat
  | .bulletin _ => 1
  | .notice _ _ _ => 2

/-- The body of a frame. -/
def contentBody : Content → List Byte
  | .bulletin b => encodeBulletin b
  | .notice n remaining _ => encodeNotice n remaining

/-- The characters of a frame that the station sends: sync, header, body and check (R163). -/
def encodeFrame (station : Nat) (f : Frame) : List Byte :=
  let body := contentBody f.content
  let head := [byte (contentKind f.content), byte station, byte f.hop, byte body.length]
  [0x5A#8, 0xC3#8] ++ head ++ body ++ crcBytes (head ++ body)

/-- The header check of the receiver (R164). -/
def headerGood : List Byte → Bool
  | [kind, _, hop, length] =>
    hop.toNat ≤ 7 && ((kind = 2#8 && length.toNat == 14) || (kind = 1#8 && 10 ≤ length.toNat && length.toNat ≤ 34))
  | _ => false

/-- The body length a header gives. -/
def headerLength (head : List Byte) : Nat := (head.getD 3 0#8).toNat

/-! ## Service port requests (13.2, R183) -/

/-- The request that the kind and body of a request frame make; anything that is not one of the five kinds with a body of
the right length, or that names no object class, is an UNKNOWN_REQUEST. That the class is looked at here, with the kind and the
body length and so before the start-up state, is the model's choice (log 42). -/
def decodeRequest : List Byte → Instr
  | [1#8] => .status
  | [2#8, 1#8, slot] => .readNoticeBySlot slot.toNat
  | [2#8, 2#8, origin, number] => .readNoticeByKey origin.toNat number.toNat
  | [2#8, 3#8, sec] => .readSectionMapEntry sec.toNat
  | [2#8, 4#8, entry] => .readPeerEntry entry.toNat
  | [2#8, 5#8, index] => .readLocalPath index.toNat
  | [2#8, 6#8, index] => .readRemotePath index.toNat
  | [2#8, 7#8, place] => .readRingRecord place.toNat
  | [2#8, 8#8, code] => .readSensorRole code.toNat
  | [2#8, 9#8, d] => .readDescriptor d.toNat
  | [2#8, 10#8, p] => .readPanel p.toNat
  | [2#8, 11#8, g] => .readGate g.toNat
  | [2#8, 12#8] => .readLatches
  | [2#8, 13#8] => .readCounters
  | 3#8 :: body => .order body
  | [4#8, ih, il, fh, fl] => .clearLatches (ih ++ il) (fh ++ fl)
  | [5#8] => .clearCounters
  | _ => .unknownRequest

/-- The kind and body of the request frame of a command that is one request, as 13.2 lays it out. -/
def encodeRequest : Instr → Option (List Byte)
  | .status => some [1#8]
  | .readNoticeBySlot slot => some [2#8, 1#8, byte slot]
  | .readNoticeByKey origin number => some [2#8, 2#8, byte origin, byte number]
  | .readSectionMapEntry sec => some [2#8, 3#8, byte sec]
  | .readPeerEntry entry => some [2#8, 4#8, byte entry]
  | .readLocalPath index => some [2#8, 5#8, byte index]
  | .readRemotePath index => some [2#8, 6#8, byte index]
  | .readRingRecord place => some [2#8, 7#8, byte place]
  | .readSensorRole code => some [2#8, 8#8, byte code]
  | .readDescriptor d => some [2#8, 9#8, byte d]
  | .readPanel p => some [2#8, 10#8, byte p]
  | .readGate g => some [2#8, 11#8, byte g]
  | .readLatches => some [2#8, 12#8]
  | .readCounters => some [2#8, 13#8]
  | .order body => some (3#8 :: body)
  | .clearLatches inputs faults => some (4#8 :: (word inputs.toNat ++ word faults.toNat))
  | .clearCounters => some [5#8]
  | _ => none

/-- The message field of an ISSUE or AMEND: 0xFF is absent. -/
def orderMessage (m : Byte) : Option Nat := unoptByte m

/-- The outcome of reading one action from an ORDER body. -/
inductive ActionRead where
  | read (a : OrderAction) (rest : List Byte)
  | unknownCode
  | short

/-- One action at the front of an ORDER body (13.2). -/
def readAction : List Byte → ActionRead
  | [] => .short
  | 1#8 :: xs =>
    match xs with
    | k :: c :: f :: l :: rh :: rl :: m :: rest =>
      .read (.issue k.toNat c.toNat f.toNat l.toNat (unword rh rl) (orderMessage m)) rest
    | _ => .short
  | 2#8 :: xs =>
    match xs with
    | o :: n :: k :: f :: l :: rh :: rl :: m :: rest =>
      .read (.amend o.toNat n.toNat k.toNat f.toNat l.toNat (unword rh rl) (orderMessage m)) rest
    | _ => .short
  | 3#8 :: xs =>
    match xs with
    | o :: n :: rest => .read (.lift o.toNat n.toNat) rest
    | _ => .short
  | 4#8 :: xs =>
    match xs with
    | p :: d :: q :: dh :: dl :: rest => .read (.post p.toNat d.toNat q.toNat (unword dh dl)) rest
    | _ => .short
  | 5#8 :: xs =>
    match xs with
    | p :: rest => .read (.clearPost p.toNat) rest
    | _ => .short
  | 6#8 :: xs =>
    match xs with
    | g :: rest => .read (.holdOpen g.toNat) rest
    | _ => .short
  | 7#8 :: xs =>
    match xs with
    | g :: rest => .read (.holdClosed g.toNat) rest
    | _ => .short
  | 8#8 :: xs =>
    match xs with
    | g :: rest => .read (.release g.toNat) rest
    | _ => .short
  | 9#8 :: xs =>
    match xs with
    | g :: rest => .read (.forceClose g.toNat) rest
    | _ => .short
  | 10#8 :: xs =>
    match xs with
    | o :: rest => .read (.clearFault o.toNat) rest
    | _ => .short
  | 11#8 :: rest => .read .restart rest
  | _ :: _ => .unknownCode

/-- `left` actions from action index `i` on: the actions, or the index at which the decoding is refused with BAD_FIELD.
An unknown action code is refused at its own index, which is 4 or above where a body declares more than three actions (log 28);
a body that ends early or goes on is refused at index 0 (13.2). -/
def readActions : (left i : Nat) → List Byte → Except Nat (List OrderAction)
  | 0, _, [] => .ok []
  | 0, _, _ :: _ => .error 0
  | left + 1, i, xs =>
    match readAction xs with
    | .short => .error 0
    | .unknownCode => .error i
    | .read a rest =>
      match readActions left (i + 1) rest with
      | .ok as => .ok (a :: as)
      | .error e => .error e

/-- The requested level and the actions of an ORDER body, decoded in full, or the index of the refusal (13.2, R33). -/
def decodeOrder : List Byte → Except Nat (Nat × List OrderAction)
  | level :: count :: xs =>
    match readActions count.toNat 1 xs with
    | .ok as => .ok (level.toNat, as)
    | .error e => .error e
  | _ => .error 0

/-- One action of an ORDER body: its code and its fields (13.2). -/
def encodeAction : OrderAction → List Byte
  | .issue kind cause first last remaining message =>
    [1#8, byte kind, byte cause, byte first, byte last] ++ word remaining ++ [optByte message]
  | .amend origin number kind first last remaining message =>
    [2#8, byte origin, byte number, byte kind, byte first, byte last] ++ word remaining ++ [optByte message]
  | .lift origin number => [3#8, byte origin, byte number]
  | .post panel descriptor priority duration =>
    [4#8, byte panel, byte descriptor, byte priority] ++ word duration
  | .clearPost panel => [5#8, byte panel]
  | .holdOpen gate => [6#8, byte gate]
  | .holdClosed gate => [7#8, byte gate]
  | .release gate => [8#8, byte gate]
  | .forceClose gate => [9#8, byte gate]
  | .clearFault object => [10#8, byte object]
  | .restart => [11#8]

/-- The ORDER body of a bundle: requested level, action count, actions (13.2). -/
def encodeOrder (level : Nat) (acts : List OrderAction) : List Byte :=
  byte level :: byte acts.length :: acts.flatMap encodeAction

/-! ## Service port responses (13.2, R183) -/

/-- The status of a response (R183). -/
inductive Status where
  | ok | unknownRequest | badIndex | notReady | refused
deriving DecidableEq, Repr

/-- The code of a response status (13.2). -/
def Status.code : Status → Nat
  | .ok => 0
  | .unknownRequest => 1
  | .badIndex => 2
  | .notReady => 3
  | .refused => 4

/-- The characters of a response frame (13.2). -/
def encodeResponse (st : Status) (data : List Byte) : List Byte :=
  let counted := byte (data.length + 1) :: byte st.code :: data
  0x3E#8 :: counted ++ crcBytes counted

/-- The reasons of a refused bundle (R37). -/
inductive Reason where
  | noAuthority | badField | conflict | settling | notPresent | notAllowed | level | priority | tableFull | notFound
  | notInForce | versionLimit | notFitted | notFaulted
deriving DecidableEq, Repr

/-- The code of a reason (13.2). -/
def Reason.code : Reason → Nat
  | .noAuthority => 1
  | .badField => 2
  | .conflict => 3
  | .settling => 4
  | .notPresent => 5
  | .notAllowed => 6
  | .level => 7
  | .priority => 8
  | .tableFull => 9
  | .notFound => 10
  | .notInForce => 11
  | .versionLimit => 12
  | .notFitted => 13
  | .notFaulted => 14

end Sys2Proof.Machine
end

