-- ==== Sys2Proof/Machine/Line.lean ====
section
/-! DEFINITION. Chapter 9, the pass line: the transmit queue and how frames join and leave it (R166 to R168), the
receiver and the inboxes (R164, R165), line access, sending and the collision (R169, R170), and the busy line (R162). -/

namespace Sys2Proof.Machine

/-! ## The transmit queue (R166) -/

/-- The key of a notice frame; a bulletin has none. -/
def Frame.key (f : Frame) : Option NoticeKey :=
  match f.content with
  | .notice n _ _ => some ⟨n.origin, n.number⟩
  | .bulletin _ => none

/-- The frame is a bulletin. -/
def Frame.isBulletin (f : Frame) : Bool :=
  match f.content with
  | .notice _ _ _ => false
  | .bulletin _ => true

/-- The purpose of a notice frame. -/
def Frame.purpose (f : Frame) : Option Purpose :=
  match f.content with
  | .notice _ _ p => some p
  | .bulletin _ => none

/-- The started frame, while one is being sent (R166). -/
def Line.started (l : Line) : Option Frame :=
  match l.tx with
  | .sending x => some x.frame
  | .idle => none
  | .waitGap _ => none

/-- How many frames the queue holds, the started frame among them (R166). -/
def Line.size (l : Line) : Nat := l.waiting.length + (if l.started.isSome then 1 else 0)

/-- The access slot of a frame that joins the queue: the station number modulo 16 (R166). -/
def ownSlot (cfg : StationCfg) : Nat := cfg.station % 16

/-- The gap of a frame in bit-times (R169). -/
def Frame.gap (f : Frame) : Nat := (if f.isBulletin then 48 else 12) + 3 * f.slot

/-- The waiting frames replaced, and the access wait brought into line: WAIT_GAP from a count of 0 when a frame joins an
empty queue or the head changes, IDLE when the queue becomes empty, and the count runs on otherwise (R169). A frame that
is being sent goes on. `again` says that the head counts as changed although it is a frame of the same key. -/
def Line.requeue (l : Line) (w : List Frame) (again : Bool) : Line :=
  match l.tx with
  | .sending _ => { l with waiting := w }
  | .idle => { l with waiting := w, tx := if w.isEmpty then .idle else .waitGap 0 }
  | .waitGap q =>
    { l with
      waiting := w
      tx := if w.isEmpty then .idle
        else if again || w.head?.map Frame.key != l.waiting.head?.map Frame.key then .waitGap 0
        else .waitGap q }

/-- Rebuilds the unstarted frame of a key in place: the record's content and the requested purpose, and the larger of
the two budgets; the attempt count and the access slot are kept (R15, R167). -/
def rebuildIn (w : List Frame) (k : NoticeKey) (f : Frame) : List Frame :=
  w.map fun g => if g.key = some k then { g with content := f.content, hop := max g.hop f.hop } else g

/-- Places a notice frame after the last waiting notice frame and before the waiting bulletin (R167). -/
def afterNotices (w : List Frame) (f : Frame) : List Frame :=
  w.filter (fun g => !g.isBulletin) ++ f :: w.filter Frame.isBulletin

/-- A notice frame is handed to the transmit queue; the flag is false where it is refused (R167). -/
def Line.joinNotice (l : Line) (k : NoticeKey) (f : Frame) : Line × Bool :=
  if l.waiting.any (fun g => g.key = some k) then (l.requeue (rebuildIn l.waiting k f) false, true)
  else if l.size < 12 then (l.requeue (afterNotices l.waiting f) false, true)
  else if l.waiting.any Frame.isBulletin then
    (l.requeue (afterNotices (l.waiting.filter fun g => !g.isBulletin) f) false, true)
  else (l, false)

/-- A bulletin is handed to the transmit queue: it replaces an unstarted bulletin in place, is discarded while a bulletin
is started, joins at the end where there is room, and is otherwise discarded (R167). -/
def Line.joinBulletin (l : Line) (f : Frame) : Line :=
  if l.waiting.any Frame.isBulletin then
    l.requeue (l.waiting.map fun g => if g.isBulletin then f else g) (l.waiting.head?.any Frame.isBulletin)
  else if l.started.any Frame.isBulletin then l
  else if l.size < 12 then l.requeue (l.waiting ++ [f]) false
  else l

/-- Any unstarted notice frame for a key is withdrawn (R16, R18, R168). -/
def Line.withdraw (l : Line) (k : NoticeKey) : Line := l.requeue (l.waiting.filter fun g => g.key ≠ some k) false

/-- The withdrawal for a record that has expired, been evicted or been purged: an unstarted frame leaves, and where the
frame is started the withdrawal is kept for a collision (R18, R168). -/
def Line.withdrawGone (l : Line) (k : NoticeKey) : Line :=
  match (l.withdraw k).tx with
  | .sending x =>
    { l.withdraw k with tx := .sending { x with withdrawn := x.withdrawn || decide (x.frame.key = some k) } }
  | .idle => l.withdraw k
  | .waitGap _ => l.withdraw k

/-! ## Receiving (R164, R165) -/

/-- The receiver is inside a frame: HEADER, BODY or CHECK. -/
def Receiver.inFrame : Receiver → Bool
  | .hunt _ => false
  | .header _ => true
  | .body _ _ => true
  | .check _ _ _ => true

/-- What the receiver makes of one character (R164). -/
inductive Received where
  | goOn (rx : Receiver)
  | truncated
  | crcError
  | good (kind : Byte) (f : RxFrame)
deriving DecidableEq, Repr

/-- The receiver takes one character with its framing error mark (R164). In HUNT the next character follows a first sync
"at once" however long the line was quiet between them (log 33). -/
def Receiver.take (c : Byte) (framingError : Bool) : Receiver → Received
  | .hunt synced =>
    if framingError then .goOn (.hunt false)
    else if synced && c == 0xC3#8 then .goOn (.header [])
    else .goOn (.hunt (c == 0x5A#8))
  | .header got =>
    if framingError then .truncated
    else if got.length + 1 < 4 then .goOn (.header (got ++ [c]))
    else if headerGood (got ++ [c]) then
      .goOn (if headerLength (got ++ [c]) = 0 then .check (got ++ [c]) [] [] else .body (got ++ [c]) [])
    else .crcError
  | .body head got =>
    if framingError then .truncated
    else if got.length + 1 < headerLength head then .goOn (.body head (got ++ [c]))
    else .goOn (.check head (got ++ [c]) [])
  | .check head content got =>
    if framingError then .truncated
    else if got.length + 1 < 2 then .goOn (.check head content (got ++ [c]))
    else if got ++ [c] = crcBytes (head ++ content) then
      .good (head.getD 0 0#8) ⟨(head.getD 1 0#8).toNat, (head.getD 2 0#8).toNat, content⟩
    else .crcError

/-- The receiver replaced. -/
def State.setRx (s : State) (rx : Receiver) : State := { s with line := { s.line with rx := rx } }

/-- A discard counted as truncated; the receiver returns to HUNT (R164). -/
def State.discardTruncated (s : State) : State :=
  (s.setRx (.hunt false)).count fun c => { c with truncated := bump c.truncated }

/-- A discard counted as a CRC error; the receiver returns to HUNT (R164). -/
def State.discardCrc (s : State) : State :=
  (s.setRx (.hunt false)).count fun c => { c with crc := bump c.crc }

/-- A frame that finds its inbox full is dropped and counted, and the latch INBOX_DROP is asked for (R165). -/
def State.dropFrame (s : State) : State :=
  (s.count fun c => { c with drops := bump c.drops }).tell [.latchSetRequest .inboxDrop]

/-- A good frame is handed on (R165): to the latch DUPLICATE_STATION where it bears this station's number, and otherwise
counted and placed in the inbox of its kind, or dropped where that is full. -/
def State.goodFrame (s : State) (kind : Byte) (f : RxFrame) : State :=
  let s := s.setRx (.hunt false)
  if f.sender = s.cfg.station then s.tell [.latchSetRequest .duplicateStation]
  else
    let s := s.count fun c => { c with good := bump c.good }
    if kind = 2#8 then
      if s.line.noticeInbox.length < 8 then
        { s with line := { s.line with noticeInbox := s.line.noticeInbox ++ [f] } }.tell [.noticeFrameTaken]
      else s.dropFrame
    else
      if s.line.bulletinInbox.length < 4 then
        { s with line := { s.line with bulletinInbox := s.line.bulletinInbox ++ [f] } }.tell [.bulletinFrameTaken]
      else s.dropFrame

/-- The receiver takes a character (R164). -/
def State.assemble (s : State) (c : Byte) (framingError : Bool) : State :=
  match s.line.rx.take c framingError with
  | .goOn rx => s.setRx rx
  | .truncated => s.discardTruncated
  | .crcError => s.discardCrc
  | .good kind f => s.goodFrame kind f

/-- The length of a character: 10 bit-times (R162). -/
def charUnits : Nat := 10 * bitUnit

/-- A busy indication: the count of WAIT_GAP goes back to 0 (R169), and the quiet time since the last character ends
(log 13). -/
def Line.busyNow (l : Line) : Line :=
  { l with
    rxGap := 0
    tx := match l.tx with
      | .waitGap _ => .waitGap 0
      | .idle => .idle
      | .sending x => .sending x }

/-- The end of a character's stop bit: nothing arrives on RXD any more, and both quiet times are counted from here. -/
def Line.characterOver (l : Line) : Line := { l.busyNow with rxBusy := 0 }

/-- The quiet time since the last character is more than 40 bit-times inside a frame (R164). -/
def Line.gapRun (l : Line) : Bool :=
  l.rx.inFrame && decide (40 * bitUnit < l.rxGap) && l.started.isNone

/-- A frame in which more than 40 bit-times of quiet have run is discarded as truncated (R164). -/
def State.endGap (s : State) : State := if s.line.gapRun then s.discardTruncated else s

/-- A busy indication reaches the Line Interface (R162, R164, R169): the quiet time that ends here may have ended a frame. -/
def State.lineBusy (s : State) : State := { s.endGap with line := s.endGap.line.busyNow }

/-- LINE_CHARACTER_RECEIVED (R162, R164, R170): a character has arrived on RXD with its stop bit. While the transmitter is
SENDING it is the readback of the character on the line, the last one where several arrive (log 34); otherwise the receiver
takes it, afresh where the quiet time before it has ended a frame. The moment of the stop bit alone decides between the two:
that a character whose start bit came in SENDING or before RUNNING entry, and whose stop bit comes after it, is taken whole in
HUNT is the model's choice (log 44). -/
def execLineCharacterReceived (c : Byte) (framingError : Bool) (s : State) : Host.Outcome State Fault Refusal :=
  .next (if s.running then
    let s := { s.endGap with line := s.endGap.line.characterOver }
    match s.line.tx with
    | .sending x => { s with line := { s.line with tx := .sending { x with readback := some (c, framingError) } } }
    | .idle => s.assemble c framingError
    | .waitGap _ => s.assemble c framingError
  else s)

/-- LINE_BUSY (R162, R169): the start bit of a character arrives on RXD, which lasts 10 bit-times. -/
def execLineBusy (s : State) : Host.Outcome State Fault Refusal :=
  .next (if s.running then { s.lineBusy with line := { s.lineBusy.line with rxBusy := charUnits } } else s)

/-- RECEIVE_GAP_TIMEOUT (R164): more than 40 bit-times of quiet inside a frame discard it as truncated. -/
def execReceiveGapTimeout (s : State) : Host.Outcome State Fault Refusal := s.event .receiveGapTimeout State.endGap

/-! ## Access and sending (R169, R170) -/

/-- The head frame where the count of quiet bit-times has reached its gap, and the frames behind it (R169). -/
def Line.ready (l : Line) : Option (Frame × List Frame) :=
  match l.tx, l.waiting with
  | .waitGap q, f :: rest => if f.gap * bitUnit ≤ q then some (f, rest) else none
  | .waitGap _, [] => none
  | .idle, _ => none
  | .sending _, _ => none

/-- The receiver abandons the frame it is assembling, counted as truncated (R164, R170). -/
def State.abandonReceive (s : State) : State :=
  if s.line.rx.inFrame then s.discardTruncated else s.setRx (.hunt false)

/-- The transmitter enters SENDING with a frame (R170). -/
def State.startSending (s : State) (f : Frame) (rest : List Frame) : State :=
  let s := s.abandonReceive
  { s with
    line := { s.line with
      waiting := rest
      tx := .sending ⟨f, encodeFrame s.cfg.station f, 0, 0, none, false⟩ } }

/-- TRANSMIT_START (R169): the count reaches the head frame's gap. -/
def execTransmitStart (s : State) : Host.Outcome State Fault Refusal :=
  s.event .transmitStart fun s =>
    match s.line.ready with
    | some (f, rest) => s.startSending f rest
    | none => s

/-- The stop bit of the character on the line is over (R162, R170). -/
def Sending.over (x : Sending) : Bool := charUnits ≤ x.sent

/-- The character on the line has been read back as it was sent (R170). -/
def Sending.readGood (x : Sending) : Bool :=
  match x.readback with
  | some (c, err) => !err && x.chars[x.pos]? == some c
  | none => false

/-- Whether the queue, once a transmission has ended, leaves the transmitter in WAIT_GAP or IDLE (R169). -/
def afterSending (w : List Frame) : Transmitter := if w.isEmpty then .idle else .waitGap 0

/-- The retry limit: 8 collisions for a notice frame, 2 for a bulletin (R170). -/
def Frame.retryLimit (f : Frame) : Nat := if f.isBulletin then 2 else 8

/-- A collided frame with its attempt count raised and its access slot moved by 7 (R170). -/
def Frame.collided (f : Frame) : Frame := { f with attempts := f.attempts + 1, slot := (f.slot + 7) % 16 }

/-- Where a collided frame takes its place: a notice frame first, a bulletin behind every waiting notice frame (R170). -/
def putBack (w : List Frame) (f : Frame) : List Frame := if f.isBulletin then w ++ [f] else f :: w

/-- A collision (R170): the collisions counter rises, and the frame leaves where a kept withdrawal or a newer frame for
its key says so (R168), is abandoned at its retry limit, and otherwise waits again. TXEN falls and the receiver starts
again in HUNT. That the newer frame must still wait at the collision, so that where relay suppression (R16) has withdrawn it the
collided frame waits again with its old content, is the model's choice (log 46). -/
def State.collide (s : State) (x : Sending) : State :=
  let s := (s.setRx (.hunt false)).count fun c => { c with collisions := bump c.collisions }
  let w := s.line.waiting
  if x.withdrawn || (x.frame.key.isSome && w.any (fun g => g.key == x.frame.key)) then
    { s with line := { s.line with tx := afterSending w } }
  else if x.frame.retryLimit ≤ x.frame.collided.attempts then
    { s with line := { s.line with tx := afterSending w } }.count fun c => { c with abandoned := bump c.abandoned }
  else
    { s with line := { s.line with waiting := putBack w x.frame.collided, tx := .waitGap 0 } }

/-- The next character of a transmission, which began as the last one ended, or the end: the frame leaves the queue, TXEN
falls and the receiver starts again in HUNT (R162, R164, R168, R170). -/
def State.sendOn (s : State) (x : Sending) : State :=
  if x.pos + 1 < x.chars.length then
    { s with line := { s.line with tx := .sending { x with pos := x.pos + 1, sent := x.sent - charUnits, readback := none } } }
  else { s with line := { s.line with rx := .hunt false, tx := afterSending s.line.waiting } }

/-- TRANSMIT_CHARACTER_END (R170): the stop bit of the character on the line is over and its readback is compared. -/
def execTransmitCharacterEnd (s : State) : Host.Outcome State Fault Refusal :=
  s.event .transmitCharacterEnd fun s =>
    match s.line.tx with
    | .sending x => if x.over then (if x.readGood then s.sendOn x else s.collide x) else s
    | .idle => s
    | .waitGap _ => s

/-! ## The outputs and the clock of the line -/

/-- TXEN: high from the start bit of a frame's first character to the end of the last character sent (R162). -/
def Line.txen (l : Line) : Bool := l.started.isSome

/-- The character on TXD, or none while TXD rests at the idle level (R162). -/
def Line.txd (l : Line) : Option Byte :=
  match l.tx with
  | .sending x => x.chars[x.pos]?
  | .idle => none
  | .waitGap _ => none

/-- The level of a character on the line, true for the idle level, in its bit-times from 0: the start bit, the eight data bits
with the least significant first, and the stop bit (R162). -/
def charLevel (c : Byte) : Nat → Bool
  | 0 => false
  | n + 1 => if n < 8 then c.getLsbD n else true

/-- The level of TXD, true for the idle level: that of the character on the line, and idle while nothing is sent (R162). -/
def Line.txdLevel (l : Line) : Bool :=
  match l.tx with
  | .sending x => (x.chars[x.pos]?).elim true fun c => charLevel c (x.sent / bitUnit)
  | .idle => true
  | .waitGap _ => true

/-- The line is busy: a character arrives on RXD, or the carrier input is active while the transmitter is not SENDING
(R162). -/
def Line.busy (l : Line) (carrier : Bool) : Bool := l.rxBusy != 0 || (carrier && l.started.isNone)

/-- One microsecond at `rate` bit/s: the character on RXD and the character being sent run on, and while the line is quiet the
count of WAIT_GAP and the quiet time since the last character run (R164, R169). -/
def Line.tick (l : Line) (rate : Nat) (carrier : Bool) : Line :=
  { l with
    rxBusy := l.rxBusy - rate
    rxGap := if l.busy carrier then 0 else if l.rx.inFrame then l.rxGap + rate else l.rxGap
    tx := match l.tx with
      | .idle => .idle
      | .waitGap q => if l.busy carrier then .waitGap 0 else .waitGap (q + rate)
      | .sending x => .sending { x with sent := x.sent + rate } }

end Sys2Proof.Machine
end

