-- ==== Sys2Proof/Machine/Notices.lean ====
section
/-! DEFINITION. Chapter 1, the Notice Engine: the notice table and precedence (R1 to R5), a notice frame taken (R6 to
R12), frames for the pass line (R13 to R18), expiry and purge (R19, R20), the notices this station produces (R21 to R25),
refresh and catch-up (R26 to R29), and the section map (R30, R31). -/

namespace Sys2Proof.Machine

/-! ## Choosing one of several -/

/-- The first item of a list that no other item comes before, in the order `before`. -/
def pick {α : Type} (before : α → α → Bool) (xs : List α) : Option α :=
  xs.foldl (fun best x =>
    match best with
    | none => some x
    | some y => if before x y then some x else some y) none

/-! ## The notice table (R3, R4) -/

/-- The key of a notice (R3). -/
def Notice.key (n : Notice) : NoticeKey := ⟨n.origin, n.number⟩

/-- The record is IN_FORCE. -/
def Notice.inForce (n : Notice) : Bool := n.state == .inForce

/-- The held records with their slots, in slot order (R3). -/
def held (table : List (Option NoticeRecord)) : List (Nat × NoticeRecord) :=
  table.zipIdx.filterMap fun x => x.1.map fun r => (x.2, r)

/-- The slot of a key, where the table holds it (R3). -/
def slotOf (table : List (Option NoticeRecord)) (k : NoticeKey) : Option Nat :=
  table.findIdx? fun r => r.any fun r => r.notice.key = k

/-- The record of a slot. -/
def recordAt (table : List (Option NoticeRecord)) (i : Nat) : Option NoticeRecord := (table[i]?).join

/-- The outcome of comparing a received copy with the held record (R4). -/
inductive Precedence where
  | received | duplicate | held
deriving DecidableEq, Repr

/-- Precedence (R4): the higher version; at equal versions the stronger level; then the lower amender; and where all
three are equal the copies are duplicates. -/
def precedence (copy held : Notice) : Precedence :=
  if copy.version ≠ held.version then (if held.version < copy.version then .received else .held)
  else if copy.level ≠ held.level then (if copy.level < held.level then .received else .held)
  else if copy.amender ≠ held.amender then (if copy.amender < held.amender then .received else .held)
  else .duplicate

/-- A record's section range covers a section (R1). -/
def Notice.covers (n : Notice) (sec : Nat) : Bool := n.firstSec ≤ sec && sec ≤ n.lastSec

/-! ## The section map (R30) -/

/-- The order in which a governing notice is chosen: the strongest kind, then the strongest level, then the lowest
origin, then the lowest number (R30). -/
def governs (x y : Notice) : Bool :=
  if kindCode x.kind ≠ kindCode y.kind then kindCode x.kind < kindCode y.kind
  else if x.level ≠ y.level then x.level < y.level
  else if x.origin ≠ y.origin then x.origin < y.origin
  else x.number < y.number

/-- The IN_FORCE notices of the table, in slot order. -/
def inForce (table : List (Option NoticeRecord)) : List Notice :=
  (table.filterMap fun r => r.map NoticeRecord.notice).filter Notice.inForce

/-- The section map entry of one section (R30). -/
def mapEntry (table : List (Option NoticeRecord)) (sec : Nat) : MapEntry :=
  match pick governs ((inForce table).filter fun n => n.covers sec) with
  | some n => ⟨some n.kind, some n.key⟩
  | none => ⟨none, none⟩

/-- The section map of a table (R30). -/
def sectionMap (table : List (Option NoticeRecord)) : List MapEntry := (List.range 32).map (mapEntry table)

/-! ## Local fields (R2, R14) -/

/-- The local expiry time of a copy stored at a minute (R2, R8). -/
def expiryOf (n : Notice) (remaining minute : Nat) : Option Nat :=
  if n.inForce && remaining != 0 then some (minute + remaining) else none

/-- A record as it enters the table (R2, R8, R21). -/
def newRecord (n : Notice) (remaining hop minute : Nat) : NoticeRecord where
  notice := n
  expiry := expiryOf n remaining minute
  heard := minute
  bestHop := hop
  stamp := minute
  early := false
  tombstone := if n.inForce then none else some minute

/-- A held record replaced by a copy that has precedence (R10): the early-refresh mark is kept, and a record that was
LIFTED already keeps its tombstone time. -/
def NoticeRecord.replaced (r : NoticeRecord) (n : Notice) (remaining hop minute : Nat) : NoticeRecord where
  notice := n
  expiry := expiryOf n remaining minute
  heard := minute
  bestHop := hop
  stamp := minute
  early := r.early
  tombstone := if n.inForce then none else if r.notice.state = .lifted then r.tombstone else some minute

/-- The remaining minutes of a frame or readout of a record (R14, R31). -/
def NoticeRecord.remaining (r : NoticeRecord) (minute : Nat) : Nat :=
  if r.notice.inForce then
    match r.expiry with
    | some e => max 1 (e - minute)
    | none => 0
  else 0

/-! ## Changes to the table -/

/-- The table replaced. -/
def State.setTable (s : State) (t : List (Option NoticeRecord)) : State := { s with engine := { s.engine with table := t } }

/-- The record of one slot replaced, or the slot freed. -/
def State.setSlot (s : State) (i : Nat) (r : Option NoticeRecord) : State := s.setTable (s.engine.table.set i r)

/-- The transmit side of the Line Interface replaced. -/
def State.setLine (s : State) (l : Line) : State := { s with line := l }

/-- The report of a change to a record that has this station as origin and carries a path tag (R25); a change to any
other record is not reported to the Hazard Unit. That the tag is the one after the change, so that a received copy which drops
the tag of an own record is not reported and one that changes it is reported under the new tag only, is the model's reading
(log 22). -/
def State.report (s : State) (before after : Option Notice) (cause : ChangeCause) : State :=
  match after.or before with
  | some n =>
    match n.pathTag with
    | some tag =>
      if n.origin = s.cfg.station then
        s.tell [.noticeChangeReport ⟨tag, n.key, before.map (·.state), after.map fun n => (n.state, n.level), cause⟩]
      else s
    | none => s
  | none => s

/-- Catch-up ends, and the next refresh tick comes one bulletin period after (R26, R29). -/
def State.endCatchUp (s : State) : State :=
  { s with engine := { s.engine with catchUp := false, pendingSet := [], tickAt := some (s.clock + s.periodUs) } }

/-- The pending set replaced; when it becomes empty catch-up ends (R29). -/
def State.setPending (s : State) (ks : List NoticeKey) : State :=
  if s.engine.catchUp && ks.isEmpty then s.endCatchUp else { s with engine := { s.engine with pendingSet := ks } }

/-- A key stays pending while its record is held and not EXPIRED (R29). -/
def staysPending (table : List (Option NoticeRecord)) (k : NoticeKey) : Bool :=
  table.any fun r => r.any fun r => r.notice.key = k && r.notice.state != .expired

/-- The fitted gates, Gate 0 first. -/
def State.fitted (s : State) : List GateId := GateId.all.filter fun g => (s.cfg.gates.get g).isSome

/-- The end of a table change (R3, R29, R30, R31): the section map is recomputed, the pending set follows the table, and
the Gate Controllers are told where an entry changed, and the Claim Unit. -/
def State.commit (s : State) : State :=
  let map := sectionMap s.engine.table
  let changed := map != s.engine.map
  let s := { s with engine := { s.engine with map := map } }
  let s := s.setPending (s.engine.pendingSet.filter (staysPending s.engine.table))
  s.tell ((if changed then s.fitted.map .demandReevaluation else []) ++ [.noticeClaim])

/-! ## Frames for the transmit queue (R13 to R18) -/

/-- The frame built from a record (R13, R14). -/
def NoticeRecord.frame (r : NoticeRecord) (s : State) (purpose : Purpose) (hop : Nat) : Frame :=
  ⟨.notice r.notice (r.remaining s.minute) purpose, hop, 0, ownSlot s.cfg⟩

/-- A frame is requested for the record of a slot (R13, R15); where the queue refuses it the early-refresh mark of the
record is set (R17). -/
def State.requestFrame (s : State) (i : Nat) (purpose : Purpose) (hop : Nat) : State :=
  match recordAt s.engine.table i with
  | some r =>
    match s.line.joinNotice r.notice.key (r.frame s purpose hop) with
    | (l, true) => s.setLine l
    | (_, false) => s.setSlot i (some { r with early := true })
  | none => s

/-- An unstarted frame for a key that has expired or left the table is withdrawn (R18). -/
def State.withdrawGone (s : State) (k : NoticeKey) : State := s.setLine (s.line.withdrawGone k)

/-! ## Room and eviction (R9, R36) -/

/-- An earlier time of two; no time counts as later than any (R9). -/
def earlier : Option Nat → Option Nat → Bool
  | some x, some y => x < y
  | some _, none => true
  | none, _ => false

/-- The slot whose record R9 evicts, passing over the named keys (R36): the tombstone with the earliest tombstone time,
or with no tombstone held the IN_FORCE ADVISORY that expires first; among equal times the lowest slot. -/
def evictSlot (table : List (Option NoticeRecord)) (named : List NoticeKey) : Option Nat :=
  let candidates := (held table).filter fun x => !named.contains x.2.notice.key
  match pick (fun x y => earlier x.2.tombstone y.2.tombstone) (candidates.filter fun x => !x.2.notice.inForce) with
  | some x => some x.1
  | none =>
    (pick (fun x y => earlier x.2.expiry y.2.expiry)
      (candidates.filter fun x => x.2.notice.inForce && x.2.notice.kind == .advisory)).map (·.1)

/-- The slot a new record takes: the lowest free one, or the slot of the record that R9 evicts. -/
def roomSlot (table : List (Option NoticeRecord)) (named : List NoticeKey) : Option Nat :=
  match table.findIdx? Option.isNone with
  | some i => some i
  | none => evictSlot table named

/-- A key leaves the pending set; the end of catch-up follows at the end of the change (R29). -/
def State.unpend (s : State) (k : NoticeKey) : State :=
  { s with engine := { s.engine with pendingSet := s.engine.pendingSet.filter (· ≠ k) } }

/-- The record of a slot leaves the table: its key leaves the pending set, its unstarted frame is withdrawn and the change is
reported (R9, R18, R20, R25, R29). -/
def State.leave (s : State) (i : Nat) (cause : ChangeCause) : State :=
  match recordAt s.engine.table i with
  | some r => (((s.setSlot i none).unpend r.notice.key).withdrawGone r.notice.key).report (some r.notice) none cause
  | none => s

/-- A record enters a slot, from which the record there is evicted first (R9), and the change is reported (R25). -/
def State.enter (s : State) (i : Nat) (r : NoticeRecord) (cause : ChangeCause) : State :=
  ((s.leave i .eviction).setSlot i (some r)).report none (some r.notice) cause

/-- The content of a held record replaced, and the change reported (R10, R23, R24, R25). -/
def State.rewrite (s : State) (i : Nat) (old new : NoticeRecord) (cause : ChangeCause) : State :=
  (s.setSlot i (some new)).report (some old.notice) (some new.notice) cause

/-! ## A notice frame taken (R6 to R12) -/

/-- The relay of a copy that arrived with hop budget `hop` and was stored at a slot (R15). -/
def State.relay (s : State) (i hop : Nat) : State := if hop = 0 then s else s.requestFrame i .relay (hop - 1)

/-- A copy of a key the table does not hold (R8, R9). -/
def State.newCopy (s : State) (n : Notice) (remaining hop : Nat) : State :=
  match roomSlot s.engine.table [] with
  | some i => ((s.enter i (newRecord n remaining hop s.minute) .received).relay i hop).commit
  | none => s.tell [.latchSetRequest .noticeTableFull]

/-- A copy that has precedence over the held record (R10). -/
def State.replaceCopy (s : State) (i : Nat) (r : NoticeRecord) (n : Notice) (remaining hop : Nat) : State :=
  ((s.rewrite i r (r.replaced n remaining hop s.minute) .received).relay i hop).commit

/-- The queue holds an unstarted RELAY frame for a key with a budget no larger than `hop` (R16). -/
def Line.suppresses (l : Line) (k : NoticeKey) (hop : Nat) : Bool :=
  l.waiting.any fun f => f.key == some k && f.purpose == some .relay && decide (f.hop ≤ hop)

/-- A duplicate (R11): the time last heard and the best hop budget, and the relay suppression of R16. -/
def State.duplicateCopy (s : State) (i : Nat) (r : NoticeRecord) (hop : Nat) : State :=
  let s := s.setSlot i (some { r with heard := s.minute, bestHop := max r.bestHop hop })
  if s.line.suppresses r.notice.key hop then
    (s.setLine (s.line.withdraw r.notice.key)).count fun c => { c with suppressed := bump c.suppressed }
  else s

/-- A stale copy (R12). -/
def State.staleCopy (s : State) (i : Nat) (r : NoticeRecord) : State :=
  let s := s.count fun c => { c with stale := bump c.stale }
  if r.notice.state = .expired then s else s.setSlot i (some { r with early := true })

/-- A good copy is handled in full (R6, R8 to R12). -/
def State.goodCopy (s : State) (n : Notice) (remaining hop : Nat) : State :=
  match slotOf s.engine.table n.key with
  | none => s.newCopy n remaining hop
  | some i =>
    match recordAt s.engine.table i with
    | none => s
    | some r =>
      match precedence n r.notice with
      | .received => s.replaceCopy i r n remaining hop
      | .duplicate => s.duplicateCopy i r hop
      | .held => s.staleCopy i r

/-- The oldest frame of the notice inbox is handled; a malformed body is discarded and counted (R6, R7). -/
def State.takeNoticeFrame (s : State) : State :=
  match s.line.noticeInbox with
  | [] => s
  | f :: rest =>
    let s := s.setLine { s.line with noticeInbox := rest }
    match decodeNotice f.body with
    | none => s.count fun c => { c with malformed := bump c.malformed }
    | some (n, remaining) => s.goodCopy n remaining f.hop

/-- NOTICE_FRAME_TAKEN (R6). -/
def execNoticeFrameTaken (s : State) : Host.Outcome State Fault Refusal :=
  s.event .noticeFrameTaken State.takeNoticeFrame

/-! ## Expiry and purge (R19, R20) -/

/-- A record expires at a minute (R19). -/
def NoticeRecord.expires (r : NoticeRecord) (minute : Nat) : Bool :=
  r.notice.inForce && r.expiry.any (· ≤ minute)

/-- The EXPIRED record that an expiring record becomes (R19). -/
def NoticeRecord.expired (r : NoticeRecord) (minute : Nat) : NoticeRecord :=
  { r with notice := { r.notice with state := .expired }, tombstone := some minute }

/-- The record of one slot becomes EXPIRED (R18, R19, R25). -/
def State.expireSlot (s : State) (x : Nat × NoticeRecord) : State :=
  (s.rewrite x.1 x.2 (x.2.expired s.minute) .expiry).withdrawGone x.2.notice.key

/-- Every IN_FORCE record whose local expiry time has come becomes EXPIRED, as one change (R19). -/
def State.expireDue (s : State) : State :=
  match (held s.engine.table).filter fun x => x.2.expires s.minute with
  | [] => s
  | x :: xs => ((x :: xs).foldl State.expireSlot s).commit

/-- NOTICE_EXPIRY (R19), at a minute boundary. -/
def execNoticeExpiry (s : State) : Host.Outcome State Fault Refusal :=
  s.event .noticeExpiry fun s => if s.atMinute then s.expireDue else s

/-- A tombstone whose hold has run at a minute (R20). -/
def NoticeRecord.purgeable (r : NoticeRecord) (hold minute : Nat) : Bool :=
  !r.notice.inForce && r.tombstone.any fun t => t + hold ≤ minute

/-- Every tombstone whose hold has run leaves the table, as one change (R20). -/
def State.purgeDue (s : State) : State :=
  match (held s.engine.table).filter fun x => x.2.purgeable s.cfg.tombstoneHold s.minute with
  | [] => s
  | x :: xs => ((x :: xs).foldl (fun s x => s.leave x.1 .purge) s).commit

/-- TOMBSTONE_PURGE (R20), at a minute boundary. -/
def execTombstonePurge (s : State) : Host.Outcome State Fault Refusal :=
  s.event .tombstonePurge fun s => if s.atMinute then s.purgeDue else s

/-! ## Notices produced by this station (R21 to R24) -/

/-- The content an issue is asked for (R21). -/
structure IssueRequest where
  kind      : NoticeKind
  cause     : Cause
  firstSec  : Nat
  lastSec   : Nat
  message   : Option Nat
  remaining : Nat
  level     : Nat
  pathTag   : Option Nat
deriving DecidableEq, Repr

/-- The numbers that held records of an origin use (R22). -/
def numbersOf (table : List (Option NoticeRecord)) (origin : Nat) : List Nat :=
  (table.filterMap fun r => r.map NoticeRecord.notice).filterMap fun n => if n.origin = origin then some n.number else none

/-- The first number at or after the counter, wrapping from 255 to 0, that is not in use (R22). -/
def freeNumber (used : List Nat) (counter : Nat) : Nat :=
  (((List.range 256).map fun k => (counter + k) % 256).find? fun n => !used.contains n).getD (counter % 256)

/-- The next-number counter learned at settle end (R22). -/
def learnedNumber (used : List Nat) : Nat := if used.isEmpty then 0 else (used.foldl max 0 + 1) % 256

/-- The notice that an issue stores (R21). -/
def IssueRequest.notice (q : IssueRequest) (station number : Nat) : Notice where
  origin := station
  number := number
  version := 0
  amender := station
  state := .inForce
  kind := q.kind
  cause := q.cause
  level := q.level
  firstSec := q.firstSec
  lastSec := q.lastSec
  message := q.message
  pathTag := q.pathTag

/-- An issue before the recomputation of its change (R21, R22): room is found, passing over the named keys; the number is
taken; the record is stored; the ORIGINATED frame is requested. None where there is no room. A record of this station that is
evicted to make the room still counts as using its number (log 27). -/
def State.issueNotice (s : State) (q : IssueRequest) (named : List NoticeKey) (cause : ChangeCause) :
    Option (State × NoticeKey) :=
  match roomSlot s.engine.table named with
  | none => none
  | some i =>
    let number := freeNumber (numbersOf s.engine.table s.cfg.station) s.engine.nextNumber
    let s := { s with engine := { s.engine with nextNumber := (number + 1) % 256 } }
    let r := newRecord (q.notice s.cfg.station number) q.remaining s.cfg.issueBudget s.minute
    some (((s.enter i r cause).requestFrame i .originated s.cfg.issueBudget), ⟨s.cfg.station, number⟩)

/-- The record an amendment leaves (R23). -/
def NoticeRecord.amended (r : NoticeRecord) (station level : Nat) (kind : NoticeKind) (firstSec lastSec remaining : Nat)
    (message : Option Nat) (budget minute : Nat) : NoticeRecord :=
  let n := { r.notice with
    version := r.notice.version + 1
    amender := station
    level := min r.notice.level level
    kind := kind
    firstSec := firstSec
    lastSec := lastSec
    message := message }
  { r with notice := n, expiry := expiryOf n remaining minute, heard := minute, stamp := minute, bestHop := budget }

/-- An amendment of the record of a slot before the recomputation of its change (R23). -/
def State.amendSlot (s : State) (i level : Nat) (kind : NoticeKind) (firstSec lastSec remaining : Nat)
    (message : Option Nat) : State :=
  match recordAt s.engine.table i with
  | some r =>
    (s.rewrite i r (r.amended s.cfg.station level kind firstSec lastSec remaining message s.cfg.issueBudget s.minute)
      .order).requestFrame i .originated s.cfg.issueBudget
  | none => s

/-- The tombstone a lift leaves (R24). -/
def NoticeRecord.lifted (r : NoticeRecord) (station budget minute : Nat) : NoticeRecord :=
  { r with
    notice := { r.notice with version := r.notice.version + 1, amender := station, state := .lifted }
    expiry := none
    heard := minute
    stamp := minute
    bestHop := budget
    tombstone := some minute }

/-- A lift of the record of a slot before the recomputation of its change (R24). -/
def State.liftSlot (s : State) (i : Nat) (cause : ChangeCause) : State :=
  match recordAt s.engine.table i with
  | some r =>
    (s.rewrite i r (r.lifted s.cfg.station s.cfg.issueBudget s.minute) cause).requestFrame i .originated s.cfg.issueBudget
  | none => s

/-! ## Refresh and catch-up (R26 to R29) -/

/-- The refresh interval: 5 seconds in catch-up, otherwise one bulletin period (R26). -/
def State.refreshInterval (s : State) : Nat := if s.engine.catchUp then 5 * secondUs else s.periodUs

/-- The slot and record the refresh rotation chooses (R27): the lowest slot with its early-refresh mark set, or with none
marked the earliest refresh stamp, among equal stamps the lowest slot; EXPIRED records are not chosen. -/
def refreshChoice (table : List (Option NoticeRecord)) : Option (Nat × NoticeRecord) :=
  let candidates := (held table).filter fun x => x.2.notice.state != .expired
  match candidates.find? (·.2.early) with
  | some x => some x
  | none => pick (fun x y => x.2.stamp < y.2.stamp) candidates

/-- The chosen record is queued for refresh, stamped, and its mark cleared; its key leaves the pending set (R27, R29). -/
def State.refreshSlot (s : State) (i : Nat) : State :=
  match recordAt (s.requestFrame i .refresh s.cfg.refreshBudget).engine.table i with
  | some r =>
    let s := s.requestFrame i .refresh s.cfg.refreshBudget
    let s := s.setSlot i (some { r with stamp := s.minute, early := false })
    s.setPending (s.engine.pendingSet.filter (· ≠ r.notice.key))
  | none => s

/-- A refresh tick (R26, R27): the next one is set, and with fewer than 9 frames in the queue one record is queued. -/
def State.refresh (s : State) (t : Nat) : State :=
  let s := { s with engine := { s.engine with tickAt := some (t + s.refreshInterval) } }
  if 9 ≤ s.line.size then s
  else
    match refreshChoice s.engine.table with
    | some (i, _) => s.refreshSlot i
    | none => s

/-- REFRESH_TICK (R27), when the refresh timer has run. -/
def execRefreshTick (s : State) : Host.Outcome State Fault Refusal :=
  s.event .refreshTick fun s =>
    match s.engine.tickAt with
    | some t => if t ≤ s.clock then s.refresh t else s
    | none => s

/-- The keys of every record held IN_FORCE or LIFTED (R28). -/
def pendingKeys (table : List (Option NoticeRecord)) : List NoticeKey :=
  ((table.filterMap fun r => r.map NoticeRecord.notice).filter fun n => n.state != .expired).map Notice.key

/-- Catch-up is set, or its pending set renewed (R28): setting it starts the ticks of 5 seconds, unless the pending set is
empty; renewing it leaves the tick timing. -/
def State.setCatchUp (s : State) : State :=
  let ks := pendingKeys s.engine.table
  if s.engine.catchUp then s.setPending ks
  else if ks.isEmpty then s
  else
    { s with engine := { s.engine with catchUp := true, pendingSet := ks, tickAt := some (s.clock + 5 * secondUs) } }

/-- CATCH_UP (R28). -/
def execCatchUp (s : State) : Host.Outcome State Fault Refusal := s.event .catchUp State.setCatchUp

end Sys2Proof.Machine
end

