-- ==== Sys2Proof/Machine/Claims.lean ====
section
/-! DEFINITION. Chapter 4, the Claim Unit: descriptors and message texts (R75 to R78), the display stack (R80 to R83), the
NOTICE, HAZARD, WEATHER, GATE and GATE_AHEAD claims and the end of posts (R85 to R93), and measured values in messages
(R94 to R96). -/

namespace Sys2Proof.Machine

/-! ## Descriptors (R76) -/

/-- The cells of a descriptor's span (R76). -/
def span (d : DescriptorCfg) : Nat :=
  match d.granularity with
  | .cell => d.limit + 1
  | .line => (d.limit + 1) * 16

/-- The span check (R76). -/
def spanCheck (d : DescriptorCfg) : Bool :=
  d.base + span d ≤ 2048 && d.field.all fun f => f.offset + f.width ≤ span d

/-- The entry of the descriptor table (R76). -/
def State.descriptor (s : State) (d : Nat) : Descriptor := s.store.getD d Descriptor.reset

/-- A descriptor is present and its panel mask includes the panel: a claim may name it there (R80). -/
def State.usable (s : State) (d : Nat) (p : Panel) : Bool :=
  (s.descriptor d).present && (s.descriptor d).cfg.mask.get p

/-! ## Measured values (R94 to R96) -/

/-- The filtered value of a role while it is VALID (R94, R114). -/
def State.validValue (s : State) (r : Role) : Option Int :=
  if (s.acq.roles.get r).validity = .valid then (s.acq.roles.get r).filtered else none

/-- The value of a measurand while it is valid (R94). -/
def State.measure (s : State) : Measurand → Option Int
  | .roadTemp => s.validValue .roadTemp
  | .airTemp => s.validValue .airTemp
  | .wind => s.validValue .wind
  | .newSnow => if s.acq.roles.snowDepth.validity = .valid then some (s.hazard.newSnow : Int) else none

/-- A tenths value rounded to whole degrees, halves away from zero (R95). -/
def wholeDegrees (t : Int) : Int := if 0 ≤ t then (t + 5) / 10 else -((-t + 5) / 10)

/-- The number shown for a value (R95). -/
def shownNumber : Measurand → Int → Int
  | .roadTemp, t => wholeDegrees t
  | .airTemp, t => wholeDegrees t
  | .wind, w => (w * 36 + 50) / 100
  | .newSnow, n => n

/-- The decimal digits of a number below 100000, without leading zeros; 0 is the one digit 0. -/
def digits (n : Nat) : List Byte :=
  let ds := ([10000, 1000, 100, 10].map fun k => n / k % 10).dropWhile (· == 0) ++ [n % 10]
  ds.map fun d => byte (0x30 + d)

/-- A number in a field of a width: right-aligned, with a leading minus sign where it is negative, and saturated to the
largest magnitude of its sign that the width can show (R96). -/
def writeNumber (width : Nat) (x : Int) : List Byte :=
  let text :=
    if x < 0 then 0x2D#8 :: digits (min x.natAbs (10 ^ (width - 1) - 1))
    else digits (min x.natAbs (10 ^ width - 1))
  List.replicate (width - text.length) 0x20#8 ++ text

/-- The formatted text of a field: dashes while the measurand is invalid (R96). -/
def State.fieldText (s : State) (f : FieldCfg) : List Byte :=
  match s.measure f.measurand with
  | some x => writeNumber f.width (shownNumber f.measurand x)
  | none => List.replicate f.width 0x2D#8

/-! ## Message text (R75, R77) -/

/-- The code of a cell of the text store (R75). -/
def cellCode (cfg : StationCfg) (i : Nat) : Byte := cfg.text.getD i 0x00#8

/-- The cells of a descriptor's span with its field's text in place (R77). -/
def State.spanCells (s : State) (d : DescriptorCfg) : List Byte :=
  (List.range (span d)).map fun i =>
    match d.field with
    | some f => if f.offset ≤ i && i < f.offset + f.width then (s.fieldText f).getD (i - f.offset) 0x20#8
        else cellCode s.cfg (d.base + i)
    | none => cellCode s.cfg (d.base + i)

/-- The message text of a descriptor: its cells up to the first end mark (R77). -/
def State.messageText (s : State) (d : Nat) : List Byte :=
  (s.spanCells (s.descriptor d).cfg).takeWhile (· != 0x00#8)

/-! ## The display stack (R81 to R83) -/

/-- A claim at its place in the stack order: before the claims of lower priority, and before those of equal priority,
which are older (R81). -/
def insertClaim (c : Claim) : List Claim → List Claim
  | [] => [c]
  | x :: xs => if x.priority ≤ c.priority then c :: x :: xs else x :: insertClaim c xs

/-- A claim is withdrawn (R82). -/
def withdrawClaim (id : ClaimId) (xs : List Claim) : List Claim := xs.filter fun x => x.id ≠ id

/-- A claim is placed or re-asserted (R82): with the descriptor and priority of the held claim that claim is kept, an
OPERATOR claim taking the new level and end time; otherwise the held claim is removed and the new one placed. -/
def placeClaim (c : Claim) (xs : List Claim) : List Claim :=
  match xs.find? fun x => x.id = c.id with
  | some old =>
    if old.descriptor = c.descriptor ∧ old.priority = c.priority then
      xs.map fun x => if x.id = c.id then { x with level := c.level, endTime := c.endTime } else x
    else insertClaim c (withdrawClaim c.id xs)
  | none => insertClaim c xs

/-- Two claims are one claim record: the same identity, placed once (R83). -/
def Claim.sameRecord (x y : Claim) : Bool :=
  x.id == y.id && x.descriptor == y.descriptor && x.priority == y.priority && x.placed == y.placed

/-- The lead has changed (R83). -/
def leadChanged (old new : List Claim) : Bool :=
  match old.head?, new.head? with
  | none, none => false
  | some x, some y => !x.sameRecord y
  | _, _ => true

/-- The name of a claim record. -/
def Claim.ref (c : Claim) : ClaimRef := ⟨c.id, c.descriptor, c.placed⟩

/-- What the Panel Driver is given for a lead (R83). -/
def State.leadOf (s : State) (c : Claim) : Lead :=
  ⟨c.ref, s.messageText c.descriptor, (s.descriptor c.descriptor).cfg.flash⟩

/-- One change to a configured panel's stack: when it changes the lead, the Panel Driver is told the new lead or that
there is none (R82, R83). -/
def State.changeStack (s : State) (p : Panel) (f : List Claim → List Claim) : State :=
  if (s.cfg.panels.get p).isSome then
    let old := (s.displays.get p).claims
    let new := f old
    if leadChanged old new then
      let lead := new.head?.map s.leadOf
      (s.setStack p ⟨new, lead.map (·.text)⟩).tell [.renderTrigger p lead]
    else s.setStack p { s.displays.get p with claims := new }
  else s

/-- One change to the stacks of all panels, in panel order. -/
def State.changeStacks (s : State) (f : Panel → List Claim → List Claim) : State :=
  Panel.all.foldl (fun s p => s.changeStack p (f p)) s

/-! ## NOTICE claims (R85, R86) -/

/-- A notice's section range meets a panel's coverage range (R85). -/
def Notice.meets (n : Notice) (c : PanelCfg) : Bool := n.firstSec ≤ c.lastCover && c.firstCover ≤ n.lastSec

/-- The panel's notice (R85). -/
def panelNotice (table : List (Option NoticeRecord)) (c : PanelCfg) : Option Notice :=
  pick governs ((inForce table).filter fun n => n.meets c)

/-- The panel's default descriptor for a kind (R79). -/
def defaultOf (d : DefaultDescriptors) : NoticeKind → Option Nat
  | .fullClosure => d.fullClosure
  | .convoy => d.convoy
  | .oneLane => d.oneLane
  | .chains => d.chains
  | .advisory => d.advisory

/-- The priority of a NOTICE claim (R86). -/
def noticePriority : NoticeKind → Nat
  | .fullClosure => 14
  | .convoy => 12
  | .oneLane => 10
  | .chains => 9
  | .advisory => 6

/-- The descriptor of a panel's NOTICE claim: the notice's message, otherwise the panel's default for its kind, each only
where it is present and allowed on the panel (R86). -/
def State.noticeDescriptor (s : State) (p : Panel) (c : PanelCfg) (n : Notice) : Option Nat :=
  (n.message.filter fun d => s.usable d p).or ((defaultOf c.defaults n.kind).filter fun d => s.usable d p)

/-- The NOTICE claim a panel is to hold, or none (R86). -/
def State.noticeClaimOf (s : State) (p : Panel) (c : PanelCfg) : Option Claim :=
  match panelNotice s.engine.table c with
  | some n => (s.noticeDescriptor p c n).map fun d => { id := .notice, descriptor := d, priority := noticePriority n.kind, placed := s.clock }
  | none => none

/-- A claim placed where there is one to hold, and otherwise withdrawn. -/
def placeOrWithdraw (id : ClaimId) (c : Option Claim) (xs : List Claim) : List Claim :=
  match c with
  | some c => placeClaim c xs
  | none => withdrawClaim id xs

/-- The NOTICE claim of every configured panel follows the table (R85, R86). -/
def State.noticeClaims (s : State) : State :=
  s.changeStacks fun p xs =>
    match s.cfg.panels.get p with
    | some c => placeOrWithdraw .notice (s.noticeClaimOf p c) xs
    | none => xs

/-- NOTICE_CLAIM (R86). -/
def execNoticeClaim (s : State) : Host.Outcome State Fault Refusal := s.event .noticeClaim State.noticeClaims

/-! ## HAZARD claims (R87) -/

/-- The paths in path order: local paths 0 to 3, then remote paths 0 to 3 (R87). -/
def pathOrder : List PathRef :=
  [.ours 0, .ours 1, .ours 2, .ours 3, .remote 0, .remote 1, .remote 2, .remote 3]

/-- The effective level of a path (R142, R143). -/
def State.effectiveOf (s : State) : PathRef → Level
  | .ours i => (s.path i).effective
  | .remote i => s.hazard.remotes.getD i .quiet

/-- The warn and close descriptors of a configured path (R128, R129). -/
def pathDescriptors (cfg : StationCfg) : PathRef → Option (Nat × Nat)
  | .ours i => cfg.paths[i]?.map fun c => (c.warnDesc, c.closeDesc)
  | .remote i => cfg.remotes[i]?.map fun c => (c.warnDesc, c.closeDesc)

/-- The HAZARD claim a path is to hold on a panel at its effective level, or none (R87). -/
def State.hazardClaimOf (s : State) (p : Panel) (r : PathRef) : Option Claim :=
  match pathDescriptors s.cfg r with
  | some (warn, close) =>
    match s.effectiveOf r with
    | .warn => if s.usable warn p then some { id := .hazard r, descriptor := warn, priority := 8, placed := s.clock } else none
    | .close =>
      if s.usable close p then some { id := .hazard r, descriptor := close, priority := 11, placed := s.clock } else none
    | .quiet => none
    | .watch => none
  | none => none

/-- The HAZARD claims of every panel follow the effective levels, as one change in path order (R87). -/
def State.hazardClaims (s : State) : State :=
  s.changeStacks fun p xs =>
    match s.cfg.panels.get p with
    | some c =>
      (pathOrder.filter fun r => c.pathMask.contains r).foldl
        (fun xs r => placeOrWithdraw (.hazard r) (s.hazardClaimOf p r) xs) xs
    | none => xs

/-- HAZARD_CLAIM (R87). -/
def execHazardClaim (s : State) : Host.Outcome State Fault Refusal := s.event .hazardClaim State.hazardClaims

/-! ## Weather rules (R88 to R90) -/

/-- The state of a rule after an evaluation with the value of its measurand (R89). -/
def evaluateRule (r : RuleCfg) (active : Bool) : Option Int → Bool
  | none => active
  | some v =>
    match r.sense with
    | .atOrBelow => if active then !decide (r.clearValue < v) else decide (v ≤ r.setValue)
    | .atOrAbove => if active then !decide (v < r.clearValue) else decide (r.setValue ≤ v)

/-- The state of a weather rule, set for ACTIVE (R88). -/
def State.ruleActive (s : State) (i : Nat) : Bool := s.rules.getD i false

/-- The state of each rule after an evaluation; a rule that is not configured stays INACTIVE (R89). -/
def State.evaluatedRules (s : State) : List Bool :=
  (List.range 8).map fun i =>
    match s.cfg.rules[i]? with
    | some r => evaluateRule r (s.ruleActive i) (s.measure r.measurand)
    | none => s.ruleActive i

/-- A rule may claim on a panel: the panel is in its mask, names it, and can show its descriptor (R90). -/
def State.ruleClaims (s : State) (i : Nat) (r : RuleCfg) (p : Panel) (c : PanelCfg) : Bool :=
  r.mask.get p && c.weatherMask.contains i && s.usable r.descriptor p

/-- One panel's stack follows the change of one rule (R90). -/
def State.weatherClaim (s : State) (new : List Bool) (p : Panel) (c : PanelCfg) (xs : List Claim) (i : Nat) :
    List Claim :=
  match s.cfg.rules[i]? with
  | some r =>
    if new.getD i false == s.ruleActive i then xs
    else if new.getD i false then
      (if s.ruleClaims i r p c then
        placeClaim { id := .weather i, descriptor := r.descriptor, priority := r.priority, placed := s.clock } xs
      else xs)
    else withdrawClaim (.weather i) xs
  | none => xs

/-- The weather rules are evaluated, and the claims of those that changed follow as one change, in rule order (R89,
R90). -/
def State.evaluateRules (s : State) : State :=
  let new := s.evaluatedRules
  { s.changeStacks (fun p xs =>
      match s.cfg.panels.get p with
      | some c => (List.range 8).foldl (s.weatherClaim new p c) xs
      | none => xs) with
    rules := new }

/-- WEATHER_RULE_EVALUATION (R89), at a minute boundary. -/
def execWeatherRuleEvaluation (s : State) : Host.Outcome State Fault Refusal :=
  s.event .weatherRuleEvaluation fun s => if s.atMinute then s.evaluateRules else s

/-! ## OPERATOR claims (R91) -/

/-- A post whose end time has come at a minute (R91). -/
def Claim.over (c : Claim) (minute : Nat) : Bool := c.id == .operator && c.endTime.any (· ≤ minute)

/-- Every OPERATOR claim whose end time has come is removed (R91). -/
def State.endPosts (s : State) : State := s.changeStacks fun _ xs => xs.filter fun c => !c.over s.minute

/-- POST_END (R91), at a minute boundary. -/
def execPostEnd (s : State) : Host.Outcome State Fault Refusal :=
  s.event .postEnd fun s => if s.atMinute then s.endPosts else s

/-! ## GATE and GATE_AHEAD claims (R92, R93) -/

/-- A gate may place its GATE claim on a panel: the panel is one of its approach panels and can show the warning
descriptor (R56). -/
def State.warnable (s : State) (c : GateCfg) (p : Panel) : Bool := c.approach.get p && s.usable c.descriptor p

/-- The GATE claim of a gate (R56). -/
def gateClaim (g : GateId) (c : GateCfg) (now : Nat) : Claim :=
  { id := .gate g, descriptor := c.descriptor, priority := 15, placed := now }

/-- A gate's request is taken as a change to the stacks, in panel order (R92). -/
def State.gateClaims (s : State) (g : GateId) (ask : GateAsk) : State :=
  match s.cfg.gates.get g with
  | some c =>
    s.changeStacks fun p xs =>
      match ask with
      | .place => if s.warnable c p then placeClaim (gateClaim g c s.clock) xs else xs
      | .withdraw => if c.approach.get p then withdrawClaim (.gate g) xs else xs
  | none => s

/-- GATE_CLAIM_REQUEST (R92). -/
def execGateClaimRequest (g : GateId) (ask : GateAsk) (s : State) : Host.Outcome State Fault Refusal :=
  s.event (.gateClaimRequest g ask) fun s => s.gateClaims g ask

/-- A gate state that a GATE_AHEAD claim warns of (R93). -/
def warnsAhead : GateState → Bool
  | .warning => true
  | .lowering => true
  | .retreat => true
  | .waitClear => true
  | .closed => true
  | .opened => false
  | .raising => false
  | .fault => false

/-- The peer entry of a sender, where the table holds one (R155). -/
def State.peerOf (s : State) (sender : Nat) : Option Peer :=
  (s.bulletin.peers.filterMap id).find? fun x => x.sender = sender

/-- The gate ahead of a panel stands reported in a state that warns, by a present peer (R93). -/
def State.gateAheadWarns (s : State) (a : GateAheadCfg) : Bool :=
  match s.peerOf a.station with
  | some peer => peer.present && peer.bulletin.gates.any fun r => r.gate.code == a.gate && warnsAhead r.state
  | none => false

/-- The GATE_AHEAD claim a panel is to hold, or none (R93). -/
def State.gateAheadClaimOf (s : State) (p : Panel) (a : GateAheadCfg) : Option Claim :=
  if s.gateAheadWarns a && s.usable a.descriptor p then
    some { id := .gateAhead, descriptor := a.descriptor, priority := 13, placed := s.clock }
  else none

/-- The GATE_AHEAD claim of every panel that names the sender follows its entry (R93). -/
def State.gateAheadClaims (s : State) (sender : Nat) : State :=
  s.changeStacks fun p xs =>
    match (s.cfg.panels.get p).bind (·.gateAhead) with
    | some a => if a.station = sender then placeOrWithdraw .gateAhead (s.gateAheadClaimOf p a) xs else xs
    | none => xs

/-- GATE_AHEAD_CLAIM (R93). -/
def execGateAheadClaim (sender : Nat) (s : State) : Host.Outcome State Fault Refusal :=
  s.event (.gateAheadClaim sender) fun s => s.gateAheadClaims sender

/-! ## Field text and accessed marks (R78, R94) -/

/-- The panels whose lead shows a measurand that differs between two states: their field text is to be formatted afresh
(R94, R121, R141). -/
def State.fieldsToReformat (s old : State) : List Instr :=
  (Panel.all.filter fun p =>
    match (s.displays.get p).claims.head?.bind (fun c => (s.descriptor c.descriptor).cfg.field) with
    | some f => s.measure f.measurand != old.measure f.measurand
    | none => false).map .fieldReformat

/-- The field text of a panel's lead is formatted afresh, and the Panel Driver is told where the text differs from the
one last handed to it (R94). What is compared is the whole message text: where an end mark before the field's cells cuts the
field off (R77), a changed field text that leaves the message text as it was is not told, which is the model's choice (log 37). -/
def State.reformat (s : State) (p : Panel) : State :=
  match (s.displays.get p).claims.head? with
  | some c =>
    if (s.displays.get p).handed = some (s.leadOf c).text then s
    else (s.setStack p { s.displays.get p with handed := some (s.leadOf c).text }).tell [.renderTrigger p (some (s.leadOf c))]
  | none => s

/-- FIELD_REFORMAT (R94). -/
def execFieldReformat (p : Panel) (s : State) : Host.Outcome State Fault Refusal :=
  s.event (.fieldReformat p) fun s => s.reformat p

/-- The accessed mark of a descriptor is set or cleared (R78). -/
def State.mark (s : State) (d : Nat) (b : Bool) : State :=
  { s with store := s.store.set d { s.descriptor d with accessed := b } }

/-- ACCESSED_MARK (R78): a swap of a render of the descriptor has been reported. -/
def execAccessedMark (descriptor : Nat) (s : State) : Host.Outcome State Fault Refusal :=
  s.event (.accessedMark descriptor) fun s => s.mark descriptor true

end Sys2Proof.Machine
end

