-- ==== Sys2Proof/Machine/Sensors.lean ====
section
/-! DEFINITION. Chapter 6, the Acquisition Unit: the scan (R115, R116), the handling of a sample (R117 to R120), what the
scan hands on (R121), slide pulses (R123) and the hourly ring (R124, R125; HOURLY_APPEND itself, which a computation follows
at once, is in Hazards.lean). -/

namespace Sys2Proof.Machine

/-! ## Roles (R114) -/

/-- The lowest and highest value of a role (R114). -/
def roleRange : Role → Int × Int
  | .roadTemp => (-500, 500)
  | .airTemp => (-500, 500)
  | .wind => (0, 600)
  | .snowDepth => (0, 800)
  | .light => (0, 1023)

/-- A value clamped to a role's range. -/
def clampTo (r : Role) (v : Int) : Int := max (roleRange r).1 (min (roleRange r).2 v)

/-! ## The handling of a sample (R117 to R120) -/

/-- A raw value that lies at an end of the converter's range (R117). -/
def sampleFaulted (raw : Nat) : Bool := raw ≤ 8 || 4087 ≤ raw

/-- The calibrated value of a good sample: the product is worked out in full, divided by 1024 with floor division, the
base added, and the result clamped to the role's range (R118). -/
def calibrate (r : Role) (e : ScanEntry) (raw : Nat) : Int :=
  clampTo r (((raw : Int) - (e.offset : Int)) * e.gain / 1024 + e.base)

/-- The filtered value after a good sample: the calibrated value where there was none or the role was not VALID, and
otherwise moved by the floor of the difference divided by 2^k (R119). -/
def filterStep (x : RoleRec) (shift : Nat) (v : Int) : Int :=
  match x.validity, x.filtered with
  | .valid, some avg => avg + (v - avg) / 2 ^ shift
  | _, _ => v

/-- A role record after a good sample (R117 to R120). -/
def goodSample (x : RoleRec) (r : Role) (e : ScanEntry) (raw : Nat) : RoleRec where
  validity := .valid
  filtered := some (filterStep x e.shift (calibrate r e raw))
  raw := some raw
  faults := 0
  invalidSince := none

/-- A role record after a faulted sample at a time (R117, R120). -/
def faultedSample (x : RoleRec) (raw now : Nat) : RoleRec :=
  let y := { x with raw := some raw, faults := min 60 (x.faults + 1) }
  if y.faults = 60 then
    match x.validity with
    | .valid => { y with validity := .failed, invalidSince := some now }
    | .unmeasured => { y with validity := .failed }
    | .failed => y
    | .notConfigured => y
  else y

/-- A role record after the sample of its entry (R117 to R120). -/
def sampleRole (x : RoleRec) (r : Role) (e : ScanEntry) (raw now : Nat) : RoleRec :=
  if sampleFaulted raw then faultedSample x raw now else goodSample x r e raw

/-! ## The scan (R115, R116, R121) -/

/-- How long a scan of a list takes in microseconds (R116). -/
def scanUs (es : List ScanEntry) : Nat := (es.map fun e => (e.sampling + 1) * 2 + 8).sum

/-- SCAN_START (R115): at a scan time a scan starts, and the next scan time is one scan period later. -/
def execScanStart (s : State) : Host.Outcome State Fault Refusal :=
  s.event .scanStart fun s =>
    match s.acq.nextScan with
    | some t =>
      if t ≤ s.clock && !s.cfg.scanList.isEmpty then
        { s with acq := { s.acq with scan := some s.clock, nextScan := some (t + s.cfg.scanPeriod * secondUs) } }
      else s
    | none => s

/-- The result of one entry of the scan list takes effect: its role's record is updated, or for NONE its last raw value
kept (R116, R122). -/
def takeEntry (now : Nat) (a : Acquisition) (x : ScanEntry × Nat × Nat) : Acquisition :=
  match x.1.role with
  | some r => { a with roles := a.roles.set r (sampleRole (a.roles.get r) r x.1 x.2.1 now) }
  | none => { a with spare := a.spare.set x.2.2 (some x.2.1) }

/-- The entries of the scan list with their raw values and list places from 0. -/
def scanResults (es : List ScanEntry) (raws : List Raw) : List (ScanEntry × Nat × Nat) :=
  es.zipIdx.map fun x => (x.1, (raws.getD x.2 0#12).toNat, x.2)

/-- All results of a scan take effect together (R116). -/
def State.applyScan (s : State) (raws : List Raw) : State :=
  { s with acq := (scanResults s.cfg.scanList raws).foldl (takeEntry s.clock) { s.acq with scan := none } }

/-- The latch requests for the roles that have become FAILED (R120). -/
def failedRoles (old new : PerRole RoleRec) : List Instr :=
  (Role.all.filter fun r => (new.get r).validity == .failed && (old.get r).validity != .failed).map
    fun r => .latchSetRequest (.sensorInvalid r)

/-- The Panel Drivers told of a valid filtered LIGHT value (R106, R121). -/
def State.lightReports (s : State) : List Instr :=
  match s.validValue .light with
  | some v => (Panel.all.filter fun p => (s.cfg.panels.get p).isSome).map fun p => .brightnessEvaluation p v
  | none => []

/-- A scan completes (R116, R120, R121). -/
def State.completeScan (s : State) (raws : List Raw) : State :=
  let t := s.applyScan raws
  t.tell (failedRoles s.acq.roles t.acq.roles ++ t.fieldsToReformat s ++ t.lightReports)

/-- SCAN_COMPLETE (R116): the last entry of the running scan has been converted. -/
def execScanComplete (raws : List Raw) (s : State) : Host.Outcome State Fault Refusal :=
  s.event (.scanComplete raws) fun s =>
    match s.acq.scan with
    | some t => if hasRun s.clock t (scanUs s.cfg.scanList) then s.completeScan raws else s
    | none => s

/-! ## Slide pulses and the hourly ring (R123 to R125) -/

/-- Slide pulses are counted: an input has the role and its edge selection is not NONE (R123). -/
def State.countsPulses (s : State) : Bool := (s.inputOf .slidePulse).any fun x => x.cfg.edges != .none

/-- SLIDE_PULSE (R123): the running count rises by 1 and stays at 255. -/
def execSlidePulse (s : State) : Host.Outcome State Fault Refusal :=
  s.event .slidePulse fun s =>
    if s.countsPulses then { s with acq := { s.acq with running := min 255 (s.acq.running + 1) } } else s

/-- The hour record of the moment (R124). -/
def State.hourRecord (s : State) : HourRec :=
  ⟨s.hour, s.validValue .snowDepth, s.validValue .airTemp, s.acq.running⟩

/-- A record joins the ring, from which the oldest leaves where it already holds 24 (R125). -/
def appendHour (ring : List HourRec) (x : HourRec) : List HourRec :=
  (if 24 ≤ ring.length then ring.drop 1 else ring) ++ [x]

/-- An hour boundary whose record has not been appended: no two records have the same hour number (R124, R125). -/
def State.appendDue (s : State) : Bool := s.atHour && s.acq.ring.all fun x => x.hour < s.hour

/-- The hour's record joins the ring and the running count returns to 0 (R124). -/
def State.closeHour (s : State) : State :=
  { s with acq := { s.acq with ring := appendHour s.acq.ring s.hourRecord, running := 0 } }

end Sys2Proof.Machine
end

