-- ==== Sys2Proof/Machine/Hazards.lean ====
section
/-! DEFINITION. Chapter 7, the Hazard Unit: the inputs (R132 to R135), terms and index (R136), levels (R137 to R140), the
computation and what it hands on, also after an hourly append (R124, R131, R141), effective levels (R142, R143), the automatic
notice (R144 to R148) and re-adoption (R149). -/

namespace Sys2Proof.Machine

/-! ## The inputs (R132 to R135) -/

/-- The smallest snow depth among the ring records whose snow depth is present (R132). -/
def ringMinimum (ring : List HourRec) : Option Int := pick (fun x y => decide (x < y)) (ring.filterMap (·.depth))

/-- N at a computation (R132). -/
def State.snowFigure (s : State) : Nat :=
  match s.validValue .snowDepth with
  | some d =>
    match ringMinimum s.acq.ring with
    | some m => (max 0 (min 200 (d - m))).toNat
    | none => 0
  | none => s.hazard.newSnow

/-- The filtered WIND value while the role is VALID, or the one it holds while FAILED (R133). -/
def State.heldWind (s : State) : Option Int :=
  match s.acq.roles.wind.validity with
  | .valid => s.acq.roles.wind.filtered
  | .failed => s.acq.roles.wind.filtered
  | .unmeasured => none
  | .notConfigured => none

/-- Wexcess (R133). -/
def State.windExcess (s : State) : Nat :=
  match s.heldWind with
  | some w => (max 0 (min 400 (w - 80))).toNat
  | none => 0

/-- The air temperature of the ring record whose hour number is six less than the current one (R134). -/
def State.airSixAgo (s : State) : Option Int :=
  (s.acq.ring.find? fun x => x.hour + 6 = s.hour).bind (·.air)

/-- Warming (R134). -/
def State.warming (s : State) : Nat :=
  match s.validValue .airTemp, s.airSixAgo with
  | some t, some u => (max 0 (min 200 (t - u))).toNat
  | _, _ => 0

/-- A, the slide activity (R135). -/
def State.slideActivity (s : State) : Nat :=
  min 255 (((s.acq.ring.drop (s.acq.ring.length - 3)).map (·.activity)).sum + s.acq.running)

/-! ## Terms and index (R136) -/

/-- The path record with the inputs, the terms and the index of a computation (R136). -/
def PathRec.rate (x : PathRec) (c : PathCfg) (n w t a : Nat) : PathRec :=
  let tn := c.wN * n
  let tw := c.wW * w / 16
  let tt := c.wT * t / 8
  let ta := c.wA * a
  { x with
    snow := n, windExcess := w, warming := t, activity := a
    termN := tn, termW := tw, termT := tt, termA := ta
    index := min 1000 (tn + tw + tt + ta) }

/-! ## Levels (R137 to R140) -/

/-- The highest level an index has reached (R137). -/
def reached (c : PathCfg) (h : Nat) : Level :=
  if c.tC ≤ h then .close else if c.tR ≤ h then .warn else if c.tW ≤ h then .watch else .quiet

/-- The threshold of a level; QUIET has none (R137). -/
def levelThreshold (c : PathCfg) : Level → Option Nat
  | .quiet => none
  | .watch => some c.tW
  | .warn => some c.tR
  | .close => some c.tC

/-- The falling point of a level: the greater of 1 and its threshold less the band (R138). -/
def fallingPoint (c : PathCfg) (l : Level) : Option Nat := (levelThreshold c l).map fun t => max 1 (t - c.band)

/-- One level lower. -/
def lowerLevel : Level → Level
  | .quiet => .quiet
  | .watch => .quiet
  | .warn => .watch
  | .close => .warn

/-- A role has been invalid for 60 minutes or more; one that is NOT_CONFIGURED counts from RUNNING entry (R139). -/
def State.longInvalid (s : State) (r : Role) : Bool :=
  (s.acq.roles.get r).validity != .valid && hasRun s.clock ((s.acq.roles.get r).invalidSince.getD 0) hourUs

/-- A local path is degraded (R139). -/
def State.degradedNow (s : State) (c : PathCfg) : Bool :=
  (c.wN != 0 && s.longInvalid .snowDepth) || (c.wW != 0 && s.longInvalid .wind) || (c.wT != 0 && s.longInvalid .airTemp)

/-- The ring is short: fewer than 6 records (R140). -/
def State.ringShort (s : State) : Bool := s.acq.ring.length < 6

/-- The level the index and the degraded mark call for at once (R137, R139). -/
def calledLevel (c : PathCfg) (x : PathRec) : Level :=
  Level.max (reached c x.index) (if x.degraded then .watch else .quiet)

/-- The fall of a level at a computation that does not raise it (R138), with the floors of R139 and R140. -/
def PathRec.fall (x : PathRec) (c : PathCfg) (short : Bool) (minute : Nat) : PathRec :=
  match fallingPoint c x.level with
  | none => { x with holdStart := none }
  | some f =>
    if f ≤ x.index then { x with holdStart := none }
    else
      let start := x.holdStart.getD minute
      if start + c.hold ≤ minute && !short && !(x.degraded && x.level == .watch) then
        { x with level := lowerLevel x.level, holdStart := some minute }
      else { x with holdStart := some start }

/-- The level of a path after its index has been worked out (R137 to R140), and the inhibit, which clears at WATCH or
QUIET (R148). -/
def PathRec.move (x : PathRec) (c : PathCfg) (short : Bool) (minute : Nat) : PathRec :=
  let y :=
    if x.level.rank < (calledLevel c x).rank then { x with level := calledLevel c x, holdStart := none }
    else x.fall c short minute
  if y.level = .quiet ∨ y.level = .watch then { y with inhibited := false } else y

/-- One local path at a computation (R131). -/
def State.computePath (s : State) (n w t a : Nat) (c : PathCfg) (x : PathRec) : PathRec :=
  ({ x.rate c n w t a with degraded := s.degradedNow c }).move c s.ringShort s.minute

/-- The local path records after a computation; a path that is not configured keeps its record (R131). -/
def State.computedPaths (s : State) : List PathRec :=
  s.hazard.paths.zipIdx.map fun x =>
    match s.cfg.paths[x.2]? with
    | some c => s.computePath s.snowFigure s.windExcess s.warming s.slideActivity c x.1
    | none => x.1

/-! ## Effective levels (R142, R143) -/

/-- The highest level reported for a path number by the present peers, or QUIET (R142, R143). -/
def State.reportedLevel (s : State) (number : Nat) : Level :=
  (((s.bulletin.peers.filterMap id).filter (·.present)).flatMap fun x => x.bulletin.paths).foldl
    (fun l r => if r.number = number then Level.max l r.level else l) .quiet

/-- The local path records with their effective levels worked out afresh (R142). -/
def State.effectivePaths (s : State) : List PathRec :=
  s.hazard.paths.zipIdx.map fun x =>
    match s.cfg.paths[x.2]? with
    | some c => { x.1 with effective := Level.max x.1.level (s.reportedLevel c.number) }
    | none => x.1

/-- The effective levels of the remote paths worked out afresh (R143). -/
def State.effectiveRemotes (s : State) : List Level :=
  s.hazard.remotes.zipIdx.map fun x =>
    match s.cfg.remotes[x.2]? with
    | some c => s.reportedLevel c.number
    | none => x.1

/-- Every effective level is worked out afresh, and the Claim Unit is told where one has changed (R141, R143). -/
def State.recomputeEffective (s : State) : State :=
  let t := { s with hazard := { s.hazard with paths := s.effectivePaths, remotes := s.effectiveRemotes } }
  if pathOrder.any fun r => t.effectiveOf r != s.effectiveOf r then t.tell [.hazardClaim] else t

/-- EFFECTIVE_LEVEL_RECOMPUTE (R143). -/
def execEffectiveLevelRecompute (s : State) : Host.Outcome State Fault Refusal :=
  s.event .effectiveLevelRecompute State.recomputeEffective

/-! ## The tests for automatic notices (R144 to R147) -/

/-- The IN_FORCE records of the table that are this station's and carry a path's tag (R144). -/
def State.tagged (s : State) (i : Nat) : List Notice :=
  (inForce s.engine.table).filter fun n => n.origin == s.cfg.station && n.pathTag == some i

/-- Those of them at level 3 (R146). -/
def State.automatic (s : State) (i : Nat) : List Notice := (s.tagged i).filter fun n => n.level == 3

/-- The conditions of R144 but for an outstanding request. -/
def State.wantsIssue (s : State) (i : Nat) (c : PathCfg) : Bool :=
  (s.path i).level == .close && c.action != .none && !(s.path i).inhibited && !s.settling && (s.tagged i).isEmpty

/-- The automatic record to be lifted: where several qualify, one whose key is not the path's issued key, and among those
the lowest number (R146, R147). The rules speak of two records; that the same choice holds among three or more, one lift for
each computation, is the model's (log 38). -/
def liftChoice (issued : Option NoticeKey) (ns : List Notice) : Option Notice :=
  match pick (fun x y => decide (x.number < y.number)) (ns.filter fun n => some n.key != issued) with
  | some n => some n
  | none => ns.head?

/-- The issue test of one path, and its issue pending mark, which clears where the conditions no longer hold (R144,
R145). -/
def State.issueTest (s : State) (i : Nat) : State :=
  match s.cfg.paths[i]? with
  | some c =>
    if s.wantsIssue i c then
      if (s.path i).request = .none then
        (s.setPath i { s.path i with request := .issue }).tell [.automaticIssue i]
      else s
    else s.setPath i { s.path i with issuePending := false }
  | none => s

/-- A lift is asked for (R146, R147). -/
def State.askLift (s : State) (i : Nat) (n : Option Notice) : State :=
  match n with
  | some n => (s.setPath i { s.path i with request := .lift n.key }).tell [.automaticLift i]
  | none => s

/-- The lift test of one path (R146). -/
def State.liftTest (s : State) (i : Nat) : State :=
  if i < s.cfg.paths.length && (s.path i).level != .close && !s.settling && (s.path i).request == .none then
    s.askLift i (liftChoice (s.path i).issuedKey (s.automatic i))
  else s

/-- The lift of one of two IN_FORCE records with the tag of one path (R147), or of one of three or more (log 38). The rule has
the lift asked for where a report has shown the second record, at the first computation that may ask. That the table is what is
tested, at the computation, so that nothing is asked for where one of the two has left the road in between, is the model's
choice (log 47). -/
def State.secondTest (s : State) (i : Nat) : State :=
  if i < s.cfg.paths.length && !s.settling && (s.path i).request == .none && decide (2 ≤ (s.tagged i).length) then
    s.askLift i (liftChoice (s.path i).issuedKey (s.automatic i))
  else s

/-- The path indexes in index order. -/
def pathIndexes : List Nat := [0, 1, 2, 3]

/-- A computation (R131, R141): the figures and levels of all local paths, their effective levels, and the tests. -/
def State.compute (s : State) : State :=
  let t := { s with hazard := { s.hazard with newSnow := s.snowFigure, paths := s.computedPaths } }
  let t := t.tell (t.fieldsToReformat s)
  let t := t.recomputeEffective
  let t := pathIndexes.foldl State.issueTest t
  let t := pathIndexes.foldl State.liftTest t
  pathIndexes.foldl State.secondTest t

/-! ## The Notice Engine's answers (R144 to R146) -/

/-- The kind of a path's automatic notice (R128). -/
def actionKind : PathAction → Option NoticeKind
  | .none => none
  | .convoy => some .convoy
  | .fullClosure => some .fullClosure

/-- The content of an automatic issue (R144). -/
def automaticRequest (c : PathCfg) (kind : NoticeKind) (i : Nat) : IssueRequest where
  kind := kind
  cause := .avalanche
  firstSec := c.firstSec
  lastSec := c.lastSec
  message := c.message
  remaining := 0
  level := 3
  pathTag := some i

/-- An automatic issue is taken: the notice is stored and its key answered, or it is refused for want of room, which sets
the issue pending mark and asks for the latch AUTO_NOTICE_REFUSED (R144, R145). -/
def State.automaticIssue (s : State) (i : Nat) (c : PathCfg) (kind : NoticeKind) : State :=
  match s.issueNotice (automaticRequest c kind i) [] .hazardOwn with
  | some (t, k) =>
    let t := t.commit
    t.setPath i { t.path i with request := .none, issuedKey := some k, issuePending := false }
  | none =>
    (s.setPath i { s.path i with request := .none, issuePending := true }).tell [.latchSetRequest .autoNoticeRefused]

/-- AUTOMATIC_ISSUE (R144): the Notice Engine takes the outstanding issue request of a path. -/
def execAutomaticIssue (path : Nat) (s : State) : Host.Outcome State Fault Refusal :=
  s.event (.automaticIssue path) fun s =>
    match s.cfg.paths[path]?, (s.path path).request with
    | some c, .issue =>
      match actionKind c.action with
      | some kind => s.automaticIssue path c kind
      | none => s
    | _, _ => s

/-- A record that an automatic lift still finds IN_FORCE at level 3 (R24, R146). -/
def State.liftable (s : State) (k : NoticeKey) : Option Nat :=
  match slotOf s.engine.table k with
  | some i =>
    match recordAt s.engine.table i with
    | some r => if r.notice.inForce && r.notice.level == 3 then some i else none
    | none => none
  | none => none

/-- AUTOMATIC_LIFT (R146): the Notice Engine takes the outstanding lift request of a path; either answer ends it. -/
def execAutomaticLift (path : Nat) (s : State) : Host.Outcome State Fault Refusal :=
  s.event (.automaticLift path) fun s =>
    match (s.path path).request with
    | .lift k =>
      let t :=
        match s.liftable k with
        | some i => (s.liftSlot i .hazardOwn).commit
        | none => s
      t.setPath path { t.path path with request := .none }
    | .none => s
    | .issue => s

/-! ## Reports of changes (R147 to R149) -/

/-- The reported record was IN_FORCE and is off the road by a cause other than the Hazard Unit's own lift (R147, R148). -/
def takenOffRoad (r : ChangeReport) : Bool :=
  r.before == some .inForce && !(r.after.any fun x => x.1 == .inForce) && r.cause != .hazardOwn

/-- The reported record was stored or replaced from a received frame and is IN_FORCE at level 3 (R149). -/
def relearned (r : ChangeReport) : Bool := r.cause == .received && r.after == some (.inForce, 3)

/-- A path is re-adopted: its level becomes CLOSE and its hold start absent (R149). -/
def PathRec.readopted (x : PathRec) : PathRec := { x with level := .close, holdStart := none }

/-- The Hazard Unit reads a report for a configured path (R147 to R149); a path that is at CLOSE already is left as it is. That
the settle period of R149 is tested when the report is read, so that a report made while settling and read after settle end
re-adopts nothing, is the model's choice (log 41). -/
def State.readReport (s : State) (r : ChangeReport) : State :=
  if (s.path r.tag).level = .close then
    if takenOffRoad r then s.setPath r.tag { s.path r.tag with inhibited := true } else s
  else if relearned r && s.settling then (s.setPath r.tag (s.path r.tag).readopted).recomputeEffective
  else s

/-- A report is read; one whose tag names no configured path has no effect (R147). -/
def State.hearReport (s : State) (r : ChangeReport) : State := if r.tag < s.cfg.paths.length then s.readReport r else s

/-- NOTICE_CHANGE_REPORT (R147). -/
def execNoticeChangeReport (r : ChangeReport) (s : State) : Host.Outcome State Fault Refusal :=
  s.event (.noticeChangeReport r) fun s => s.hearReport r

/-! ## When a computation is made (R124, R131, R148) -/

/-- The report of a message, where it is one. -/
def reportOf : Instr → Option ChangeReport
  | .noticeChangeReport r => some r
  | _ => none

/-- The Hazard Unit reads the reports that wait for it, oldest first (R147; log 35). -/
def State.hearReports (s : State) : State :=
  (s.told.filterMap reportOf).foldl (fun s r => (s.take (.noticeChangeReport r)).hearReport r) s

/-- The Hazard Unit makes a computation: the reports that wait are read first, so that no test of R144 is made on a path whose
notice has left the road unheard (R131, R148; log 35). -/
def State.hearAndCompute (s : State) : State := s.hearReports.compute

/-- HAZARD_COMPUTATION at a minute boundary (R131); the computation that follows an hourly append is made in the append's own
command (log 40). -/
def execHazardComputation (s : State) : Host.Outcome State Fault Refusal :=
  s.event .hazardComputation fun s => if s.atMinute then s.hearAndCompute else s

/-- HOURLY_APPEND (R124): the hour's record is appended, and the Hazard Unit makes its computation at once, so that no pulse
falls between the two and the running count is 0 at the computation (R131, R135; log 40). -/
def execHourlyAppend (s : State) : Host.Outcome State Fault Refusal :=
  s.event .hourlyAppend fun s => if s.appendDue then s.closeHour.hearAndCompute else s

end Sys2Proof.Machine
end

