-- ==== Sys2Proof/Machine/Bulletins.lean ====
section
/-! DEFINITION. Chapter 8, the Bulletin Unit: the station's own bulletin (R151 to R153), taking a bulletin frame (R154), the
peer table and its ageing (R155 to R157), a neighbour that is settling (R158), and what the table hands on (R159). -/

namespace Sys2Proof.Machine

/-! ## The station's own bulletin (R151 to R153) -/

/-- The SENSOR_DEGRADED flag (R152). -/
def State.sensorDegraded (s : State) : Bool :=
  Role.all.any (fun r => (s.acq.roles.get r).validity != .valid && (s.acq.roles.get r).validity != .notConfigured) ||
  (s.hazard.paths.take s.cfg.paths.length).any (·.degraded)

/-- The path reports: one for each configured local path, in index order (R152). The level is reported as it stands, a
re-adopted one (R149) too, though no computation left it (log 32). -/
def State.pathReports (s : State) : List PathReport :=
  s.cfg.paths.zipIdx.map fun x => ⟨x.1.number, (s.path x.2).level, (s.path x.2).index⟩

/-- The gate reports: one for each fitted gate, Gate 0 first (R74, R152). -/
def State.gateReports (s : State) : List GateReport :=
  GateId.all.filterMap fun g => (s.cfg.gates.get g).map fun c => ⟨g, c.guarded, c.entry, (s.gates.get g).state⟩

/-- The bulletin built from the state as it stands (R152). -/
def State.buildBulletin (s : State) : Bulletin where
  home := s.cfg.home
  settling := s.settling
  degraded := s.sensorDegraded
  panelFault := Panel.all.any fun p => (s.cfg.panels.get p).isSome && (s.panels.get p).state == .fault
  gateFault := GateId.all.any fun g => (s.cfg.gates.get g).isSome && (s.gates.get g).state == .fault
  road := s.validValue .roadTemp
  air := s.validValue .airTemp
  wind := s.validValue .wind
  snow := s.measure .newSnow
  inForce := (inForce s.engine.table).length
  paths := s.pathReports
  gates := s.gateReports

/-- The bulletin frame handed to the Line Interface (R153). -/
def State.bulletinFrame (s : State) : Frame := ⟨.bulletin s.buildBulletin, 0, 0, ownSlot s.cfg⟩

/-- The skew of the first bulletin in microseconds: the period times the station number modulo 16, divided by 16 and
rounded down to whole milliseconds (R151). -/
def skewUs (cfg : StationCfg) : Nat := cfg.bulletinPeriod * 1000 * (cfg.station % 16) / 16 * 1000

/-- BULLETIN_TIME (R152): at a bulletin time a bulletin is built and queued, and the next comes one period later. -/
def execBulletinTime (s : State) : Host.Outcome State Fault Refusal :=
  s.event .bulletinTime fun s =>
    match s.bulletin.nextAt with
    | some t =>
      if t ≤ s.clock then
        { s with
          bulletin := { s.bulletin with nextAt := some (t + s.periodUs) }
          line := s.line.joinBulletin s.bulletinFrame }
      else s
    | none => s

/-! ## The peer table (R155 to R159) -/

/-- The two blocks that read the peer table are told which sender's entry has changed (R159). -/
def peerReports (sender : Nat) : List Instr := [.effectiveLevelRecompute, .gateAheadClaim sender]

/-- An entry of the peer table; none where it is free. -/
def State.peer (s : State) (i : Nat) : Option Peer := (s.bulletin.peers[i]?).join

/-- One entry of the peer table replaced. -/
def State.setPeer (s : State) (i : Nat) (x : Option Peer) : State :=
  { s with bulletin := { s.bulletin with peers := s.bulletin.peers.set i x } }

/-- The entry of a sender (R155). -/
def entryOf (peers : List (Option Peer)) (sender : Nat) : Option Nat :=
  peers.findIdx? fun x => x.any fun x => x.sender = sender

/-- The stale entry that is evicted: the earliest time received, the lowest-numbered among equal times (R156). -/
def staleEntry (peers : List (Option Peer)) : Option Nat :=
  (pick (fun x y => decide (x.2.received < y.2.received))
    ((peers.zipIdx.filterMap fun x => x.1.map fun r => (x.2, r)).filter fun x => !x.2.present)).map (·.1)

/-- The entry for a new sender: the lowest-numbered free one, or the stale one that is evicted (R156). -/
def newEntry (peers : List (Option Peer)) : Option Nat :=
  match peers.findIdx? Option.isNone with
  | some i => some i
  | none => staleEntry peers

/-- A bulletin with SETTLING set asks for catch-up where it is newly stored, replaces a clear flag, or replaces a stale
entry (R158). -/
def asksCatchUp (b : Bulletin) (old : Option Peer) : Bool :=
  b.settling && old.all fun x => !x.bulletin.settling || !x.present

/-- A bulletin is stored in an entry in place of what it held for this sender, and the blocks are told (R156, R158,
R159). -/
def State.storePeer (s : State) (i sender : Nat) (b : Bulletin) (old : Option Peer) : State :=
  (s.setPeer i (some ⟨sender, b, s.clock, 0, true⟩)).tell
    (peerReports sender ++ (if asksCatchUp b old then [.catchUp] else []))

/-- The evicted entry's sender is told of as well (R159). -/
def evictionReports : Option Peer → List Instr
  | some x => peerReports x.sender
  | none => []

/-- A good bulletin is stored, or counted where the table is full of present peers (R156). -/
def State.goodBulletin (s : State) (sender : Nat) (b : Bulletin) : State :=
  match entryOf s.bulletin.peers sender with
  | some i => s.storePeer i sender b (s.peer i)
  | none =>
    match newEntry s.bulletin.peers with
    | some i => (s.tell (evictionReports (s.peer i))).storePeer i sender b none
    | none => { s with bulletin := { s.bulletin with tableFull := bump s.bulletin.tableFull } }

/-- The oldest frame of the bulletin inbox is taken and its body checked (R154, R156). -/
def State.takeBulletinFrame (s : State) : State :=
  match s.line.bulletinInbox with
  | [] => s
  | f :: rest =>
    let s := s.setLine { s.line with bulletinInbox := rest }
    match (decodeBulletin f.body).filter fun _ => 1 ≤ f.sender && f.sender ≤ 60 with
    | none => { s with bulletin := { s.bulletin with malformed := bump s.bulletin.malformed } }
    | some b => s.goodBulletin f.sender b

/-- BULLETIN_FRAME_TAKEN (R154). -/
def execBulletinFrameTaken (s : State) : Host.Outcome State Fault Refusal :=
  s.event .bulletinFrameTaken State.takeBulletinFrame

/-- A period boundary of an entry has come and has not been taken (R157). -/
def Peer.boundaryDue (x : Peer) (now period : Nat) : Bool := hasRun now x.received ((x.missed + 1) * period)

/-- An entry after one more missed period: stale at 3, and none, freed, at 10 (R157). -/
def Peer.aged (x : Peer) : Option Peer :=
  if 10 ≤ x.missed + 1 then none
  else some { x with missed := x.missed + 1, present := x.present && decide (x.missed + 1 < 3) }

/-- What an entry that has gone stale or been freed held up is taken out of play in the one change: the effective levels, and
the GATE_AHEAD claims of the panels that name its sender (R93, R143, R157, R159; log 36). -/
def State.outOfPlay (s : State) (sender : Nat) : State := s.recomputeEffective.gateAheadClaims sender

/-- PERIOD_BOUNDARY (R157): the periods missed of one entry rise; where it goes stale or is freed, the Hazard Unit and the
Claim Unit act in the same change, so that a replacement taken next places its claims anew. -/
def execPeriodBoundary (entry : Nat) (s : State) : Host.Outcome State Fault Refusal :=
  s.event (.periodBoundary entry) fun s =>
    match s.peer entry with
    | some x =>
      if x.boundaryDue s.clock s.periodUs then
        if x.missed + 1 = 3 ∨ 10 ≤ x.missed + 1 then (s.setPeer entry x.aged).outOfPlay x.sender
        else s.setPeer entry x.aged
      else s
    | none => s

end Sys2Proof.Machine
end

