-- ==== Sys2Proof/Machine/Panels.lean ====
section
/-! DEFINITION. Chapter 5, the Panel Drivers: laying out the text (R100), rendering and the swap (R101 to R104), scanning
(R105), brightness (R106), flashing (R107), the lamp check and the fault (R108 to R111). -/

namespace Sys2Proof.Machine

/-! ## Laying out the text (R100) -/

/-- A pictogram code of the text store (R75). -/
def isPictogram (c : Byte) : Bool := 0x80 ≤ c.toNat && c.toNat ≤ 0x8B

/-- A printable code of the text store (R75). -/
def isPrintable (c : Byte) : Bool := 0x20 ≤ c.toNat && c.toNat ≤ 0x7E

/-- The code as it is laid out: a code that is neither printable nor a pictogram is a space (R75, R100). -/
def laidCode (c : Byte) : Byte := if isPictogram c || isPrintable c then c else 0x20#8

/-- The character cells a code takes (R75, R100). -/
def cells (c : Byte) : Nat := if isPictogram c then 2 else 1

/-- The lines of a text, split at each line break (R100, step 1). -/
def splitLines : List Byte → List (List Byte)
  | [] => [[]]
  | c :: cs =>
    if c = 0x0A#8 then [] :: splitLines cs
    else
      match splitLines cs with
      | l :: ls => (c :: l) :: ls
      | [] => [[c]]

/-- The codes of a line that fit a number of cells: the first that does not fit is dropped with all after it (R100,
step 4). -/
def truncateLine : Nat → List Byte → List Byte
  | _, [] => []
  | n, c :: cs => if cells c ≤ n then c :: truncateLine (n - cells c) cs else []

/-- The width of a line in cells (R100, step 3). -/
def lineCells (l : List Byte) : Nat := (l.map cells).sum

/-- One line placed with its top row: truncated and centred, an odd cell on the right (R100, steps 3 to 5). -/
def placeLine (width top : Nat) (l : List Byte) : PlacedLine :=
  let codes := truncateLine width (l.map laidCode)
  ⟨top, (width - lineCells codes) / 2, codes⟩

/-- The lines of a text laid out on a panel (R100). -/
def layText (c : PanelCfg) (text : List Byte) : List PlacedLine :=
  let width := c.columns / 6
  if c.rows = 8 then ((splitLines text).take 1).map (placeLine width 0)
  else
    match (splitLines text).take 2 with
    | [l] => [placeLine width 4 l]
    | ls => (ls.zip [0, 8]).map fun x => placeLine width x.2 x.1

/-- The image of a lead, or the blank image for no lead (R100, R102). -/
def layLead (c : PanelCfg) : Option Lead → PanelImage
  | some l => ⟨some l.claim, l.flash, layText c l.text⟩
  | none => {}

/-- The pixel of a code drawn from the left edge of its cells, in column `x` and row `y` of them: the glyph fills the left
5 columns of a printable character or 11 of a pictogram, and the top 7 rows (R98); a space is unlit. -/
def codePixel (c : Byte) (x y : Nat) : Bool :=
  c != 0x20#8 && decide (x < 6 * cells c - 1) && decide (y < 7) && Config.glyph c.toNat x y

/-- The pixel of a run of codes at column `x` from the left edge of the first and row `y` of the line (R100). -/
def codesPixel : List Byte → Nat → Nat → Bool
  | [], _, _ => false
  | c :: cs, x, y => if x < 6 * cells c then codePixel c x y else codesPixel cs (x - 6 * cells c) y

/-- A pixel of an image: every pixel outside a glyph is unlit (R100). -/
def PanelImage.pixel (i : PanelImage) (row column : Nat) : Bool :=
  i.lines.any fun l =>
    l.top ≤ row && row < l.top + 8 && 6 * l.left ≤ column && codesPixel l.codes (column - 6 * l.left) (row - l.top)

/-- The pixels of one row of an image. -/
def PanelImage.rowPixels (i : PanelImage) (columns row : Nat) : List Bool := (List.range columns).map (i.pixel row)

/-- The row holds a lit pixel (R108). -/
def PanelImage.rowLit (i : PanelImage) (columns row : Nat) : Bool := (i.rowPixels columns row).any id

/-! ## Rendering (R101, R102) -/

/-- A render of the pending lead begins; a partly built or ready back image is discarded (R102). The back image is held as
blank until the render completes (log 29). -/
def PanelRec.beginRender (x : PanelRec) (now : Nat) : PanelRec := { x with render := .running now, back := {} }

/-- RENDER_TRIGGER (R101, R110): the pending lead is recorded, and outside FAULT a render begins. -/
def execRenderTrigger (p : Panel) (lead : Option Lead) (s : State) : Host.Outcome State Fault Refusal :=
  s.event (.renderTrigger p lead) fun s =>
    if (s.cfg.panels.get p).isSome then
      let x := { s.panels.get p with pendingLead := lead }
      s.setPanel p (if x.state = .fault then x else x.beginRender s.clock)
    else s

/-- RENDER_COMPLETE (R102): the pending lead is laid out in the back image, and the render is ready. -/
def execRenderComplete (p : Panel) (s : State) : Host.Outcome State Fault Refusal :=
  s.event (.renderComplete p) fun s =>
    match s.cfg.panels.get p, (s.panels.get p).render with
    | some c, .running _ =>
      s.setPanel p { s.panels.get p with back := layLead c (s.panels.get p).pendingLead, render := .ready }
    | _, _ => s

/-! ## The frame start and the swap (R103 to R105, R107) -/

/-- The back image becomes the front image (R103, R104): a new claim sets the lead-shown time and restarts the flash
phase, the same claim keeps both, and a blank image leaves the panel DARK with no lead-shown time. The back image left behind
is held as blank (log 29). -/
def PanelRec.swap (x : PanelRec) (now : Nat) : PanelRec :=
  let y := { x with front := x.back, back := {}, render := .idle }
  match x.back.claim with
  | none => { y with state := .dark, leadShown := none }
  | some _ =>
    if x.back.claim = x.front.claim then { y with state := .showing }
    else { y with state := .showing, leadShown := some now, phase := .shown, phaseFrom := now, phaseDue := false }

/-- The other flash phase. -/
def FlashPhase.other : FlashPhase → FlashPhase
  | .shown => .blank
  | .blank => .shown

/-- A flashing lead whose period has run changes phase at the frame start (R107). -/
def PanelRec.turnPhase (x : PanelRec) : PanelRec :=
  if x.state = .showing && x.front.flash && x.phaseDue then { x with phase := x.phase.other, phaseDue := false } else x

/-- The driven image of a frame is fixed at its start: the front image in SHOWING but in a BLANK phase (R105). -/
def PanelRec.fixDriven (x : PanelRec) (now : Nat) : PanelRec :=
  { x with
    driven := x.state = .showing && (!x.front.flash || x.phase = .shown)
    frameAt := some now
    slotStep := x.step
    sampled := false }

/-- What a Panel Driver tells after a swap: the descriptor it renders, and the lead state where the claim of the front
image has changed (R78, R103). -/
def swapReports (p : Panel) (old new : PanelRec) : List Instr :=
  (match new.front.claim with
    | some c => [.accessedMark c.descriptor]
    | none => []) ++
  (if old.front.claim = new.front.claim then [] else [.leadStateReport p])

/-- A frame start (R103, R105, R107). -/
def State.startFrame (s : State) (p : Panel) : State :=
  let x := s.panels.get p
  if x.render = .ready then
    (s.setPanel p (((x.swap s.clock).turnPhase).fixDriven s.clock)).tell (swapReports p x (x.swap s.clock))
  else s.setPanel p (x.turnPhase.fixDriven s.clock)

/-- The length of a frame in microseconds: one row slot of 1 ms for each row (R105). -/
def frameUs (c : PanelCfg) : Nat := c.rows * 1000

/-- A frame start is due: no frame has started yet, or the last row's slot has ended (R105). -/
def PanelRec.frameDue (x : PanelRec) (c : PanelCfg) (now : Nat) : Bool :=
  match x.frameAt with
  | none => true
  | some t => hasRun now t (frameUs c)

/-- FRAME_START (R103, R105). -/
def execFrameStart (p : Panel) (s : State) : Host.Outcome State Fault Refusal :=
  s.event (.frameStart p) fun s =>
    match s.cfg.panels.get p with
    | some c => if (s.panels.get p).frameDue c s.clock then s.startFrame p else s
    | none => s

/-- The flash period of a phase in microseconds (R98, R107). -/
def flashUs (c : PanelCfg) : FlashPhase → Nat
  | .shown => c.flashOn * 100000
  | .blank => c.flashOff * 100000

/-- The flash period of the current phase has run (R107). -/
def PanelRec.periodRun (x : PanelRec) (c : PanelCfg) (now : Nat) : Bool :=
  x.state = .showing && x.front.flash && !x.phaseDue && hasRun now x.phaseFrom (flashUs c x.phase)

/-- FLASH_PERIOD_EXPIRY (R107): the period of the phase has run; the phase changes at the next frame start, and the next
period is timed from the moment this one ran out. -/
def execFlashPeriodExpiry (p : Panel) (s : State) : Host.Outcome State Fault Refusal :=
  s.event (.flashPeriodExpiry p) fun s =>
    match s.cfg.panels.get p with
    | some c =>
      let x := s.panels.get p
      if x.periodRun c s.clock then
        s.setPanel p { x with phaseDue := true, phaseFrom := x.phaseFrom + flashUs c x.phase }
      else s
    | none => s

/-! ## Scanning (R105) -/

/-- The row whose slot it is, and how far into the slot the clock stands (R105). -/
def PanelRec.slotAt (x : PanelRec) (c : PanelCfg) (now : Nat) : Option (Nat × Nat) :=
  match x.frameAt with
  | some t => if now - t < frameUs c then some ((now - t) / 1000, (now - t) % 1000) else none
  | none => none

/-- The on-time of a brightness step (R98). -/
def onTime (c : PanelCfg) (step : Nat) : Nat := ((c.steps[step]?).map (·.onTime)).getD 0

/-- The columns of a row that are switched on at a moment of its slot: those lit in the driven image, until the on-time of the
slot has run (R105). -/
def PanelRec.columnsOn (x : PanelRec) (c : PanelCfg) (row off : Nat) : List Bool :=
  if x.driven && decide (off < onTime c x.slotStep) then x.front.rowPixels c.columns row else List.replicate c.columns false

/-- The row driven at the moment and its columns that are on: in RUNNING every frame of a configured panel drives each row for
its slot, whatever its driven image, and outside RUNNING no row is driven (R105, R186). -/
def State.panelOutput (s : State) (p : Panel) : Option (Nat × List Bool) :=
  match s.cfg.panels.get p with
  | some c =>
    if s.running then
      ((s.panels.get p).slotAt c s.clock).map fun x => (x.1, (s.panels.get p).columnsOn c x.1 x.2)
    else none
  | none => none

/-- A new row slot: its on-time is that of the brightness step as it stands, and its row has not been sampled (R105,
R108). -/
def PanelRec.newSlot (x : PanelRec) (now : Nat) : PanelRec :=
  match x.frameAt with
  | some t => if (now - t) % 1000 = 0 then { x with slotStep := x.step, sampled := false } else x
  | none => x

/-! ## The lamp check and the fault (R108, R109) -/

/-- The terminal level of a panel's sense input, where it has one (R98, R108). -/
def State.sense (s : State) (p : Panel) : Option Bool := (s.inputOf (.panelSense p)).map (·.terminal)

/-- A panel enters FAULT (R109). -/
def PanelRec.enterFault (x : PanelRec) (row : Nat) : PanelRec :=
  { x with
    state := .fault
    cause := some .rowOpen
    faultRow := some row
    front := {}
    back := {}
    render := .idle
    leadShown := none
    driven := false }

/-- The miss count of a row. -/
def PanelRec.missesOf (x : PanelRec) (row : Nat) : Nat := x.misses.getD row 0

/-- A checked row's sample (R108, R109): sensed current sets its miss count to 0, a miss raises it, and the third miss puts
the panel in FAULT. -/
def State.checkRow (s : State) (p : Panel) (row : Nat) (current : Bool) : State :=
  let x := { s.panels.get p with sampled := true }
  if current then s.setPanel p { x with misses := x.misses.set row 0 }
  else
    let y := { x with misses := x.misses.set row (x.missesOf row + 1) }
    if 3 ≤ x.missesOf row + 1 then
      (s.setPanel p (y.enterFault row)).tell [.leadStateReport p, .latchSetRequest (.panelFault p)]
    else s.setPanel p y

/-- The row to be sampled at the moment: the panel is SHOWING and the clock stands in the on-time of a row's slot that
has not been sampled (R108). -/
def PanelRec.sampleRow (x : PanelRec) (c : PanelCfg) (now : Nat) : Option Nat :=
  match x.slotAt c now with
  | some (row, off) => if x.state = .showing && !x.sampled && decide (off < onTime c x.slotStep) then some row else none
  | none => none

/-- LAMP_CHECK_SAMPLE (R108). -/
def execLampCheckSample (p : Panel) (s : State) : Host.Outcome State Fault Refusal :=
  s.event (.lampCheckSample p) fun s =>
    match s.cfg.panels.get p, s.sense p with
    | some c, some current =>
      let x := s.panels.get p
      match x.sampleRow c s.clock with
      | some row =>
        if x.driven && x.front.rowLit c.columns row then s.checkRow p row current
        else s.setPanel p { x with sampled := true }
      | none => s
    | _, _ => s

/-- A panel in FAULT recovers (R111): the miss counts, the cause and the row are cleared, the panel is DARK, a render of the
pending lead begins, and the gates are told. -/
def State.recoverPanel (s : State) (p : Panel) : State :=
  let x := s.panels.get p
  if x.state = .fault then
    let y := { x with misses := List.replicate 16 0, cause := none, faultRow := none, state := .dark }
    (s.setPanel p (y.beginRender s.clock)).tell [.leadStateReport p]
  else s

/-! ## Brightness (R106) -/

/-- The light threshold of a brightness step (R98). -/
def threshold (c : PanelCfg) (step : Nat) : Nat := ((c.steps[step]?).map (·.threshold)).getD 0

/-- The falling point of a step: the greater of 1 and its threshold less the band (R106). -/
def lampFallingPoint (c : PanelCfg) (step : Nat) : Nat := max 1 (threshold c step - c.band)

/-- The step reached by moving down while the light is below the falling point of the step (R106). -/
def stepDown (c : PanelCfg) (light : Int) : Nat → Nat
  | 0 => 0
  | k + 1 => if light < (lampFallingPoint c (k + 1) : Int) then stepDown c light k else k + 1

/-- The brightness step after an evaluation against a light value (R106). -/
def newStep (c : PanelCfg) (light : Int) (step : Nat) : Nat :=
  match (List.range 8).reverse.find? fun k => decide (step < k) && decide ((threshold c k : Int) ≤ light) with
  | some k => k
  | none => stepDown c light step

/-- BRIGHTNESS_EVALUATION (R106), in every panel state. -/
def execBrightnessEvaluation (p : Panel) (light : Int) (s : State) : Host.Outcome State Fault Refusal :=
  s.event (.brightnessEvaluation p light) fun s =>
    match s.cfg.panels.get p with
    | some c => s.setPanel p { s.panels.get p with step := newStep c light (s.panels.get p).step }
    | none => s

end Sys2Proof.Machine
end

