-- ==== Sys2Proof/Machine/Gates.lean ====
section
/-! DEFINITION. Chapter 3, the Gate Controllers: the outputs (R51), demand (R52, R53), the warning and the panel interlock
(R54 to R60), travel (R61 to R67), faults and recovery (R68 to R71), and the start (R72). -/

namespace Sys2Proof.Machine

/-! ## Drives and flasher (R51) -/

/-- A state in which the flasher flashes (R51). -/
def flashing : GateState → Bool
  | .opened => false
  | .closed => false
  | .warning => true
  | .lowering => true
  | .raising => true
  | .retreat => true
  | .waitClear => true
  | .fault => true

/-- The phase of a flasher cycle that started in the on phase: 0.5 s on and 0.5 s off (R51). -/
def flasherOn (start now : Nat) : Bool := (now - start) / 500000 % 2 == 0

/-- The FLASHER output of a state (R51). -/
def flasherLevel (st : GateState) (start now : Nat) : Bool :=
  match st with
  | .opened => false
  | .closed => true
  | _ => flasherOn start now

/-- The gate enters a state, and its outputs change in the same step: the flasher cycle starts when a flashing state is
entered from OPEN or CLOSED and otherwise runs on (R51). -/
def Gate.enter (x : Gate) (st : GateState) (now : Nat) : Gate :=
  let start := if flashing st && !flashing x.state then now else x.flashFrom
  { x with
    state := st
    flashFrom := start
    lower := st == .lowering
    raise := st == .raising || st == .retreat
    flasher := flasherLevel st start now }

/-! ## Demand (R52) -/

/-- The kind of the section map entry of a section. -/
def State.mapKind (s : State) (sec : Nat) : Option NoticeKind := (s.engine.map.getD sec {}).kind

/-- The demand of a gate from its settle hold, its mode and the map entry of its guarded section (R52). -/
def demandOf (settleHold : Bool) (mode : GateMode) (kind : Option NoticeKind) (onConvoy : Bool) : Demand :=
  if settleHold then .closing
  else
    match mode with
    | .heldOpen => .opening
    | .heldClosed => .closing
    | .auto =>
      match kind with
      | some .fullClosure => .closing
      | some .convoy => if onConvoy then .closing else .opening
      | some .oneLane => .opening
      | some .chains => .opening
      | some .advisory => .opening
      | none => .opening

/-- The demand of a gate as it stands (R52). -/
def State.gateDemand (s : State) (g : GateId) (c : GateCfg) : Demand :=
  demandOf (s.gates.get g).settleHold (s.gates.get g).mode (s.mapKind c.guarded) c.onConvoy

/-! ## The levels a gate sees (R50) -/

/-- The UP limit is active. -/
def State.up (s : State) (g : GateId) : Bool := s.inputLevel (.gateUp g)

/-- The DOWN limit is active. -/
def State.down (s : State) (g : GateId) : Bool := s.inputLevel (.gateDown g)

/-- The beam is broken. -/
def State.beamBroken (s : State) (g : GateId) : Bool := s.inputLevel (.beam g)

/-! ## The panel interlock (R57) -/

/-- The counted panels of a closing: the approach panels that are not unwarned and not in FAULT (R56, R57). -/
def State.counted (s : State) (c : GateCfg) : List Panel :=
  Panel.all.filter fun p => s.warnable c p && (s.panels.get p).state != .fault

/-- The gate's GATE claim is the claim in the panel's front image, and has been shown for a duration (R57). -/
def State.shownFor (s : State) (g : GateId) (p : Panel) (duration : Nat) : Bool :=
  match (s.panels.get p).front.claim, (s.panels.get p).leadShown with
  | some r, some t =>
    r.id == .gate g && (s.displays.get p).claims.any (fun c => c.ref == r) && hasRun s.clock t duration
  | _, _ => false

/-- The pre-warning time of a gate in microseconds (R48). -/
def preWarnUs (c : GateCfg) : Nat := c.preWarning * secondUs

/-- The panel part of the interlock is met (R57). -/
def State.panelPart (s : State) (g : GateId) (c : GateCfg) : Bool :=
  !(s.counted c).isEmpty && (s.counted c).all fun p => s.shownFor g p (preWarnUs c)

/-- The pre-warning time has run since the WARNING entry time (R59, condition 1). -/
def State.preWarned (s : State) (g : GateId) (c : GateCfg) : Bool :=
  (s.gates.get g).warnEntry.any fun t => hasRun s.clock t (preWarnUs c)

/-- The three conditions on which lowering begins (R59). -/
def State.mayLower (s : State) (g : GateId) (c : GateCfg) : Bool :=
  s.preWarned g c && (s.panelPart g c || (s.gates.get g).bypass) && !s.beamBroken g

/-- The condition on which SIGN_WAIT is set in WARNING (R60). -/
def State.signWaits (s : State) (g : GateId) (c : GateCfg) : Bool :=
  s.preWarned g c && (s.counted c).isEmpty && !(s.gates.get g).bypass

/-! ## Entering the states -/

/-- A gate withdraws any GATE claims it holds (R56). -/
def State.withdrawClaims (s : State) (g : GateId) : State :=
  if (s.gates.get g).claims then
    (s.setGate g { s.gates.get g with claims := false }).tell [.gateClaimRequest g .withdraw]
  else s

/-- A gate enters a state that runs no warning: the outputs follow, and the WARNING entry time and SIGN_WAIT are
cleared (R49, R51, R60). The timers are given. -/
def Gate.toState (x : Gate) (st : GateState) (now : Nat) (motion clear : Option Nat) : Gate :=
  { x.enter st now with motion := motion, clear := clear, warnEntry := none, signWait := false }

/-- A gate enters WARNING (R55, R56). -/
def State.enterWarning (s : State) (g : GateId) (c : GateCfg) : State :=
  let warn := Panel.all.any fun p => s.warnable c p
  let x := (s.gates.get g).toState .warning s.clock none none
  (s.setGate g { x with retreats := 0, warnEntry := some s.clock, claims := warn }).tell
    (if warn then [.gateClaimRequest g .place] else [])

/-- A gate enters OPEN (R54): its claims are withdrawn; with demand OPEN its bypass mark is cleared, and with demand CLOSE
it goes straight on to WARNING. -/
def State.enterOpened (s : State) (g : GateId) (c : GateCfg) : State :=
  let s := s.withdrawClaims g
  let x : Gate := { (s.gates.get g).toState .opened s.clock none none with cause := none }
  if x.demand = .opening then s.setGate g { x with bypass := false }
  else (s.setGate g x).enterWarning g c

/-- A gate enters LOWERING, and a leg begins (R59, R61, R67). -/
def State.enterLowering (s : State) (g : GateId) : State :=
  s.setGate g ((s.gates.get g).toState .lowering s.clock (some s.clock) none)

/-- A gate enters CLOSED (R62, R64): its claims are withdrawn and its bypass mark is cleared. -/
def State.enterClosed (s : State) (g : GateId) : State :=
  let s := s.withdrawClaims g
  s.setGate g { (s.gates.get g).toState .closed s.clock none none with bypass := false, cause := none }

/-- A gate enters RAISING; a new leg begins unless RAISE was on already (R61, R66). -/
def State.enterRaising (s : State) (g : GateId) : State :=
  let x := s.gates.get g
  s.setGate g { x.toState .raising s.clock (if x.state = .retreat then x.motion else some s.clock) none with cause := none }

/-- A gate enters RETREAT, and a leg begins (R63). -/
def State.enterRetreat (s : State) (g : GateId) : State :=
  s.setGate g ((s.gates.get g).toState .retreat s.clock (some s.clock) none)

/-- A gate enters WAIT_CLEAR; the beam clear timer starts if the beam is clear (R67). -/
def State.enterWaitClear (s : State) (g : GateId) : State :=
  s.setGate g ((s.gates.get g).toState .waitClear s.clock none (if s.beamBroken g then none else some s.clock))

/-- A gate enters FAULT (R70). -/
def State.enterFault (s : State) (g : GateId) (cause : GateFault) : State :=
  let s := s.withdrawClaims g
  (s.setGate g { (s.gates.get g).toState .fault s.clock none none with cause := some cause }).tell
    [.latchSetRequest (.gateFault g)]

/-! ## Demand changes and the lowering test (R52, R53, R59, R60) -/

/-- The gate acts on a demand of OPEN that its record now holds (R52, R62 to R67). -/
def State.onDemandOpen (s : State) (g : GateId) (c : GateCfg) : State :=
  match (s.gates.get g).state with
  | .warning => s.enterOpened g c
  | .waitClear => s.enterOpened g c
  | .lowering => s.enterRaising g
  | .retreat => s.enterRaising g
  | .closed => s.enterRaising g
  | .opened => s
  | .raising => s
  | .fault => s

/-- The gate acts on a demand of CLOSE that its record now holds (R54, R65). -/
def State.onDemandClose (s : State) (g : GateId) (c : GateCfg) : State :=
  match (s.gates.get g).state with
  | .opened => s.enterWarning g c
  | .warning => s
  | .lowering => s
  | .closed => s
  | .raising => s
  | .retreat => s
  | .waitClear => s
  | .fault => s

/-- A fitted gate re-evaluates its demand; the same demand changes nothing (R52, R53). -/
def State.reevaluate (s : State) (g : GateId) : State :=
  match s.cfg.gates.get g with
  | some c =>
    let d := s.gateDemand g c
    if d = (s.gates.get g).demand then s
    else
      let s := s.setGate g { s.gates.get g with demand := d }
      match d with
      | .opening => s.onDemandOpen g c
      | .closing => s.onDemandClose g c
  | none => s

/-- A fitted gate in WARNING tests the lowering conditions: it enters LOWERING where all three hold, and otherwise SIGN_WAIT
follows (R59, R60). -/
def State.testLowering (s : State) (g : GateId) : State :=
  match s.cfg.gates.get g with
  | some c =>
    if (s.gates.get g).state = .warning then
      if s.mayLower g c then s.enterLowering g
      else s.setGate g { s.gates.get g with signWait := s.signWaits g c }
    else s
  | none => s

/-- DEMAND_REEVALUATION (R53). -/
def execDemandReevaluation (g : GateId) (s : State) : Host.Outcome State Fault Refusal :=
  s.event (.demandReevaluation g) fun s => s.reevaluate g

/-- PRE_WARNING_EXPIRY (R59). -/
def execPreWarningExpiry (g : GateId) (s : State) : Host.Outcome State Fault Refusal :=
  s.event (.preWarningExpiry g) fun s => s.testLowering g

/-- SHOWN_DURATION_REACHED (R57, R59). -/
def execShownDurationReached (g : GateId) (p : Panel) (s : State) : Host.Outcome State Fault Refusal :=
  s.event (.shownDurationReached g p) fun s => s.testLowering g

/-- A gate with the panel among its approach panels tests the lowering conditions (R57, R59). -/
def State.testForPanel (s : State) (p : Panel) (g : GateId) : State :=
  match s.cfg.gates.get g with
  | some c => if c.approach.get p then s.testLowering g else s
  | none => s

/-- LEAD_STATE_REPORT (R57, R59, R60): the gates that have the panel as an approach panel test, Gate 0 first. -/
def execLeadStateReport (p : Panel) (s : State) : Host.Outcome State Fault Refusal :=
  s.event (.leadStateReport p) fun s => GateId.all.foldl (fun s g => s.testForPanel p g) s

/-! ## Travel (R61 to R67) -/

/-- MOTION_LIMIT_EXPIRY (R61): the motion limit has run with the timer still running. -/
def execMotionLimitExpiry (g : GateId) (s : State) : Host.Outcome State Fault Refusal :=
  s.event (.motionLimitExpiry g) fun s =>
    match s.cfg.gates.get g, (s.gates.get g).motion with
    | some c, some t => if hasRun s.clock t (c.motionLimit * secondUs) then s.enterFault g .motionTimeout else s
    | _, _ => s

/-- BEAM_CLEAR_TIME_EXPIRY (R67): the beam clear time has run in WAIT_CLEAR with the timer running and demand CLOSE. -/
def execBeamClearTimeExpiry (g : GateId) (s : State) : Host.Outcome State Fault Refusal :=
  s.event (.beamClearTimeExpiry g) fun s =>
    match s.cfg.gates.get g, (s.gates.get g).clear with
    | some c, some t =>
      if (s.gates.get g).state = .waitClear ∧ (s.gates.get g).demand = .closing ∧
          hasRun s.clock t (c.beamClear * secondUs) = true then s.enterLowering g
      else s
    | _, _ => s

/-- FLASHER_PHASE (R51): the FLASHER output takes the level of its cycle. -/
def execFlasherPhase (g : GateId) (s : State) : Host.Outcome State Fault Refusal :=
  s.event (.flasherPhase g) fun s =>
    if (s.cfg.gates.get g).isSome then
      let x := s.gates.get g
      s.setGate g { x with flasher := flasherLevel x.state x.flashFrom s.clock }
    else s

/-! ## Limit and beam events (R50, R62 to R69) -/

/-- The UP limit is reached (R65, R66, R69). -/
def State.upReached (s : State) (g : GateId) (c : GateCfg) : State :=
  match (s.gates.get g).state with
  | .fault => s
  | st =>
    if s.down g then s.enterFault g .limitConflict
    else if st = .raising then s.enterOpened g c
    else if st = .retreat then s.enterWaitClear g
    else s

/-- The UP limit is lost (R68). -/
def State.upLost (s : State) (g : GateId) : State :=
  match (s.gates.get g).state with
  | .opened => s.enterFault g .displaced
  | .warning => s.enterFault g .displaced
  | .waitClear => s.enterFault g .displaced
  | .lowering => s
  | .closed => s
  | .raising => s
  | .retreat => s
  | .fault => s

/-- The DOWN limit is reached (R62, R69). -/
def State.downReached (s : State) (g : GateId) : State :=
  match (s.gates.get g).state with
  | .fault => s
  | st =>
    if s.up g then s.enterFault g .limitConflict
    else if st = .lowering then s.enterClosed g
    else s

/-- The DOWN limit is lost (R68). -/
def State.downLost (s : State) (g : GateId) : State :=
  if (s.gates.get g).state = .closed then s.enterFault g .displaced else s

/-- The beam is broken (R63, R67). -/
def State.beamBreaks (s : State) (g : GateId) : State :=
  let x := s.gates.get g
  match x.state with
  | .lowering =>
    let s := s.setGate g { x with retreats := x.retreats + 1 }
    if 3 ≤ x.retreats + 1 then s.enterFault g .obstructed else s.enterRetreat g
  | .waitClear => s.setGate g { x with clear := none }
  | .opened => s
  | .warning => s
  | .closed => s
  | .raising => s
  | .retreat => s
  | .fault => s

/-- The beam becomes clear (R59, R67). -/
def State.beamClears (s : State) (g : GateId) : State :=
  match (s.gates.get g).state with
  | .waitClear => s.setGate g { s.gates.get g with clear := some s.clock }
  | .warning => s.testLowering g
  | .opened => s
  | .lowering => s
  | .closed => s
  | .raising => s
  | .retreat => s
  | .fault => s

/-- A fitted gate is told of a change of the debounced level of one of its inputs (R50, R173). -/
def State.gateInput (s : State) (r : InputRole) (active : Bool) : State :=
  match r with
  | .gateUp g =>
    match s.cfg.gates.get g with
    | some c => if active then s.upReached g c else s.upLost g
    | none => s
  | .gateDown g => if (s.cfg.gates.get g).isSome then (if active then s.downReached g else s.downLost g) else s
  | .beam g => if (s.cfg.gates.get g).isSome then (if active then s.beamBreaks g else s.beamClears g) else s
  | .slidePulse => s
  | .keyBit0 => s
  | .keyBit1 => s
  | .door => s
  | .lineCarrier => s
  | .panelSense _ => s
  | .unused => s

/-! ## Recovery and start (R71, R72, R73) -/

/-- The demand of a gate that leaves FAULT is worked out afresh (R53, R71). -/
def State.refreshDemand (s : State) (g : GateId) (c : GateCfg) : State :=
  s.setGate g { s.gates.get g with demand := s.gateDemand g c }

/-- A gate in FAULT recovers from its limits as they stand (R71). -/
def State.recoverGate (s : State) (g : GateId) (c : GateCfg) : State :=
  if (s.gates.get g).state = .fault then
    match s.up g, s.down g with
    | true, false => (s.refreshDemand g c).enterOpened g c
    | false, true =>
      if s.gateDemand g c = .opening then ((s.refreshDemand g c).enterClosed g).enterRaising g
      else (s.refreshDemand g c).enterClosed g
    | false, false => (s.refreshDemand g c).enterRaising g
    | true, true => s.setGate g { s.gates.get g with cause := some .limitConflict }
  else s

/-- A gate found at RUNNING entry (R72): its state from its limits, then its demand. -/
def startGate (up down : Bool) (c : GateCfg) (now : Nat) : Gate :=
  let x : Gate := { Gate.reset with flashFrom := now }
  let y :=
    match up, down with
    | true, false => x.enter .opened now
    | false, true => { x.enter .closed now with settleHold := true }
    | false, false => { x.enter .fault now with cause := some .positionUnknown }
    | true, true => { x.enter .fault now with cause := some .limitConflict }
  { y with demand := demandOf y.settleHold .auto none c.onConvoy }

end Sys2Proof.Machine
end

