-- ==== Sys2Proof/Machine/Inputs.lean ====
section
/-! DEFINITION. Chapter 10, the Field Input Unit: debouncing (R174), the edge latches (R175), what each owner is told (R173)
and the requests to set a station fault latch (R176). -/

namespace Sys2Proof.Machine

/-! ## A debounced change (R173 to R175) -/

/-- An edge selection includes the direction of a change to `active` (R175). -/
def edgeSelected : EdgeSelection → Bool → Bool
  | .none, _ => false
  | .rising, active => active
  | .falling, active => !active
  | .both, _ => true

/-- An input record after its terminal level has been taken as its debounced level: the timer stops and a selected edge
sets the latch (R174, R175). -/
def Input.taken (x : Input) : Input :=
  { x with
    debounced := x.terminal
    timer := none
    latch := x.latch || edgeSelected x.cfg.edges x.terminal }

/-- The owner of an input is told of a change of its debounced level (R123, R162, R173). -/
def State.tellOwner (s : State) (c : InputCfg) (active : Bool) : State :=
  match c.role with
  | .gateUp g => s.gateInput (.gateUp g) active
  | .gateDown g => s.gateInput (.gateDown g) active
  | .beam g => s.gateInput (.beam g) active
  | .slidePulse => if edgeSelected c.edges active then s.tell [.slidePulse] else s
  | .lineCarrier => if active then s.lineBusy else s
  | .keyBit0 => s
  | .keyBit1 => s
  | .door => s
  | .panelSense _ => s
  | .unused => s

/-- A change of an input is taken: its record, the latches with ATTENTION, and its owner (R173 to R175, R177). -/
def State.takeChange (s : State) (i : Nat) (x : Input) : State :=
  ((s.setInput i x.taken).follow).tellOwner x.cfg x.terminal

/-! ## The terminal and the timer (R174) -/

/-- The debounce time of an input in microseconds (R173). -/
def debounceUs (c : InputCfg) : Nat := c.debounce * 1000

/-- A terminal takes a level while the station is RUNNING (R174): a level that differs from the debounced one is taken at
once with a debounce time of 0 and otherwise starts the timer, and a level that equals it again stops the timer. -/
def State.terminalChange (s : State) (i : Nat) (x : Input) (active : Bool) : State :=
  if x.terminal = active then s
  else
    let y := { x with terminal := active }
    if active = x.debounced then s.setInput i { y with timer := none }
    else if x.cfg.debounce = 0 then s.takeChange i y
    else s.setInput i { y with timer := some s.clock }

/-- TERMINAL_LEVEL_CHANGE (R174, R180): outside RUNNING the level stands at the terminal and nothing reads it. -/
def execTerminalLevelChange (input : Nat) (active : Bool) (s : State) : Host.Outcome State Fault Refusal :=
  .next (match s.inputs[input]? with
  | some x => if s.running then s.terminalChange input x active else s.setInput input { x with terminal := active }
  | none => s)

/-- The debounce timer of an input has run its debounce time (R174). -/
def Input.timerRun (x : Input) (now : Nat) : Bool := x.timer.any fun t => hasRun now t (debounceUs x.cfg)

/-- DEBOUNCE_EXPIRY (R174). -/
def execDebounceExpiry (input : Nat) (s : State) : Host.Outcome State Fault Refusal :=
  s.event (.debounceExpiry input) fun s =>
    match s.inputs[input]? with
    | some x => if x.timerRun s.clock then s.takeChange input x else s
    | none => s

/-! ## The station fault latches (R176) -/

/-- LATCH_SET_REQUEST (R176, R177). -/
def execLatchSetRequest (latch : FaultLatch) (s : State) : Host.Outcome State Fault Refusal :=
  s.event (.latchSetRequest latch) fun s => s.setFault latch

end Sys2Proof.Machine
end

