-- ==== Sys2Proof/Machine/Port.lean ====
section
/-! DEFINITION. Chapter 11, the Service Port: the link and the request frame (R181), one request at a time (R182), how a
request is answered (R183), and the two requests that clear (R178, R185). -/

namespace Sys2Proof.Machine

/-! ## The link (R181) -/

/-- The bits of one character at the port: one more with parity (R181). -/
def charBits (parity : Bool) : Nat := if parity then 11 else 10

/-- The port's state replaced. -/
def State.setPort (s : State) (st : PortState) : State := { s with port := { s.port with state := st } }

/-- A character counted as an overrun (R182). -/
def State.overrun (s : State) : State := { s with port := { s.port with overrun := bump s.port.overrun } }

/-- A gathered run of characters, the length first, is a whole frame. -/
def frameWhole (got : List Byte) : Bool := (got.headD 0#8).toNat + 3 ≤ got.length

/-- The check characters of a whole frame agree with the CRC worked over length, kind and body (R181). -/
def frameAgrees (got : List Byte) : Bool :=
  let n := (got.headD 0#8).toNat + 1
  got.drop n == crcBytes (got.take n)

/-- The request of a whole frame (R183). -/
def frameRequest (got : List Byte) : Instr := decodeRequest ((got.drop 1).take (got.headD 0#8).toNat)

/-- RECEIVING takes a character without error (R181): a length of 0 or above 120 and a check that does not agree discard
the frame, and a frame whose check agrees is a request. -/
def State.gather (s : State) (got : List Byte) : State :=
  if got.length = 1 && ((got.headD 0#8).toNat == 0 || decide (120 < (got.headD 0#8).toNat)) then s.setPort .idle
  else if frameWhole got then
    if frameAgrees got then (s.setPort (.serving (frameRequest got))).tell [frameRequest got]
    else s.setPort .idle
  else s.setPort (.receiving got 0)

/-- IDLE takes a character: 0x3C without error begins a frame, and any other is passed over (R181). The rule names errors in
RECEIVING only: that a 0x3C with a framing error, or with a parity error where parity is in use, is passed over in IDLE too is
the model's choice (log 39). -/
def State.hunt (s : State) (c : Byte) (bad : Bool) : State :=
  s.setPort (if !bad && c == 0x3C#8 then .receiving [] 0 else .idle)

/-- More than 50 ms have passed since the last character of a frame (R181). -/
def gapOver (gap : Nat) : Bool := 50000 < gap

/-- RECEIVING takes a character (R181): one that comes more than 50 ms after the last is taken afresh in IDLE, since the frame
is discarded. The rule does not say between which moments of the two characters the 50 ms pass. That they begin at the end of
the last one and end at this SERVICE_PORT_CHARACTER, the end of the next one, whose own bit-times so count in the gap, is the
model's choice (log 19). -/
def State.receive (s : State) (got : List Byte) (gap : Nat) (c : Byte) (bad : Bool) : State :=
  if gapOver gap then s.hunt c bad
  else if bad then s.setPort .idle
  else s.gather (got ++ [c])

/-- SERVICE_PORT_CHARACTER (R181, R182): in RESET_HELD the port neither receives nor sends. -/
def execServicePortCharacter (c : Byte) (framingError parityError : Bool) (s : State) :
    Host.Outcome State Fault Refusal :=
  .next (if s.startUp = .resetHeld then s
  else
    let bad := framingError || (parityError && s.port.parity)
    match s.port.state with
    | .idle => s.hunt c bad
    | .receiving got gap => s.receive got gap c bad
    | .serving _ => s.overrun
    | .responding _ _ => s.overrun)

/-- REQUEST_GAP_TIMEOUT (R181): more than 50 ms between two characters of a request frame discard it. -/
def execRequestGapTimeout (s : State) : Host.Outcome State Fault Refusal :=
  let s := s.take .requestGapTimeout
  .next (match s.port.state with
  | .receiving _ gap => if gapOver gap then s.setPort .idle else s
  | .idle => s
  | .serving _ => s
  | .responding _ _ => s)

/-! ## Requests and responses (R182, R183) -/

/-- The port sends a response (R182). The rule says only that the frame is sent. That it begins at once when the request is
taken, and that its characters follow one another without idle time, so that it takes 10 bit-times for each character, or 11
with parity, is the model's choice (log 43). -/
def State.respond (s : State) (st : Status) (data : List Byte) : State :=
  let frame := encodeResponse st data
  s.setPort (.responding frame (frame.length * charBits s.port.parity * bitUnit))

/-- The port takes a request: it is the one in SERVING, or a request that reaches the idle port whole (log 8). -/
def State.accepts (s : State) (c : Instr) : Bool :=
  s.startUp != .resetHeld &&
  match s.port.state with
  | .idle => true
  | .serving r => r == c
  | .receiving _ _ => false
  | .responding _ _ => false

/-- The frame of a request that is answered in every state in which the port runs (R183). -/
def State.serveAlways (s : State) (c : Instr) (f : State → State) : Host.Outcome State Fault Refusal :=
  .next (if (s.take c).accepts c then f (s.take c) else s.take c)

/-- The frame of a request that is answered NOT_READY in LOADING and UNCONFIGURED (R183). -/
def State.serve (s : State) (c : Instr) (f : State → State) : Host.Outcome State Fault Refusal :=
  s.serveAlways c fun s => if s.running then f s else s.respond .notReady []

/-- UNKNOWN_REQUEST (R183): the check of kind and body length comes before that of the start-up state, and by the model's choice
the check that a READ's object class exists is made with it (log 42). -/
def execUnknownRequest (s : State) : Host.Outcome State Fault Refusal :=
  s.serveAlways .unknownRequest fun s => s.respond .unknownRequest []

/-- The code of a start-up state (R190). -/
def startUpCode : StartUp → Nat
  | .resetHeld => 0
  | .loading => 1
  | .running => 2
  | .unconfigured => 3

/-- The code of a failure cause (R190). -/
def failureCode : FailureCause → Nat
  | .marker => 0
  | .length => 1
  | .sum => 2
  | .sections => 3
  | .range => 4
  | .order => 5
  | .unique => 6
  | .panel => 7
  | .gate => 8

/-- The data of a STATUS response (R183): start-up state, failure cause, settling, station number where a configuration
has been loaded, ATTENTION, 1 for asserted and 0 for negated (log 14), the number of latches set, and the overrun counter. -/
def State.statusData (s : State) : List Byte :=
  [byte (startUpCode s.startUp), optByte (s.failure.map failureCode), flag s.settling,
   optByte (if s.running then some s.cfg.station else none), flag s.attention, byte s.latchCount] ++ word s.port.overrun

/-- STATUS (R183). -/
def execStatus (s : State) : Host.Outcome State Fault Refusal :=
  s.serveAlways .status fun s => s.respond .ok s.statusData

/-! ## Clearing (R178, R185) -/

/-- The station fault latches after a CLEAR_LATCHES: a named latch is cleared, and set again where its cause stands (R178). A
latch that is not named keeps its value. The rule sets again each named latch whose cause stands and says too that naming a
latch which is already clear changes nothing. Where both bear on one latch, clear with its LATCH_SET_REQUEST still waiting while
its cause stands, that it is set is the model's choice (log 45). -/
def State.clearedFaults (s : State) (mask : Word16) : List Bool :=
  FaultLatch.all.map fun l => if mask.getLsbD l.bit then s.causeStands l else s.faultSet l

/-- The input records after a CLEAR_LATCHES (R178). -/
def State.clearedInputs (s : State) (mask : Word16) : List Input :=
  s.inputs.zipIdx.map fun x => if mask.getLsbD x.2 then { x.1 with latch := false } else x.1

/-- The latches as two masks in the layout of a CLEAR_LATCHES body (R185; log 9). -/
def State.latchMasks (s : State) : List Byte :=
  word ((s.inputs.zipIdx.map fun x => if x.1.latch then 2 ^ x.2 else 0).sum) ++
  word ((FaultLatch.all.map fun l => if s.faultSet l then 2 ^ l.bit else 0).sum)

/-- The clearing and the setting again are one change, in which ATTENTION follows (R178). -/
def State.clear (s : State) (inputs faults : Word16) : State :=
  { s with inputs := s.clearedInputs inputs, faults := s.clearedFaults faults }.follow

/-- CLEAR_LATCHES (R178, R185): a set bit 14 or 15 names no station fault latch. -/
def execClearLatches (inputs faults : Word16) (s : State) : Host.Outcome State Fault Refusal :=
  s.serve (.clearLatches inputs faults) fun s =>
    if faults.getLsbD 14 || faults.getLsbD 15 then s.respond .badIndex []
    else (s.clear inputs faults).respond .ok (s.clear inputs faults).latchMasks

/-- The nine line counters in the order of R171. -/
def LineCounters.list (c : LineCounters) : List Nat :=
  [c.good, c.crc, c.truncated, c.collisions, c.abandoned, c.drops, c.suppressed, c.malformed, c.stale]

/-- The twelve counters: the nine line counters, the Bulletin Unit's two, and the overrun counter (R185). -/
def State.allCounters (s : State) : List Nat :=
  s.line.counters.list ++ [s.bulletin.malformed, s.bulletin.tableFull, s.port.overrun]

/-- All twelve counters are set to 0 in one change (R185). -/
def State.zeroCounters (s : State) : State :=
  { s with
    line := { s.line with counters := LineCounters.zero }
    bulletin := { s.bulletin with malformed := 0, tableFull := 0 }
    port := { s.port with overrun := 0 } }

/-- CLEAR_COUNTERS (R185). -/
def execClearCounters (s : State) : Host.Outcome State Fault Refusal :=
  s.serve .clearCounters fun s => s.zeroCounters.respond .ok (s.zeroCounters.allCounters.flatMap word)

/-! ## The end of a response (R47, R181, R182) -/

/-- The port takes the rate and parity of the configuration while the station is RUNNING (R181). -/
def State.applySetting (s : State) : State :=
  if s.running then { s with port := { s.port with rate := s.cfg.portRate, parity := s.cfg.portParity } } else s

/-- RESPONSE_COMPLETE (R182): the last character of the response has been sent. The port returns to IDLE, or after a
RESTART the station is reset and passes through RESET_HELD at once (R47, R186). -/
def execResponseComplete (s : State) : Host.Outcome State Fault Refusal :=
  let s := s.take .responseComplete
  .next (match s.port.state with
  | .responding _ 0 =>
    if s.port.restart then { s.doReset with startUp := .loading } else (s.setPort .idle).applySetting
  | .responding _ _ => s
  | .idle => s
  | .receiving _ _ => s
  | .serving _ => s)

/-- One microsecond at the port: the gap in a request frame and the response run on (R181, R182). -/
def Port.tick (x : Port) : Port :=
  { x with
    state := match x.state with
      | .idle => .idle
      | .receiving got gap => .receiving got (gap + 1)
      | .serving r => .serving r
      | .responding f left => .responding f (left - x.rate) }

end Sys2Proof.Machine
end

