-- ==== Sys2Proof/Machine/Orders.lean ====
section
/-! DEFINITION. Chapter 2, the Order Unit: the key level and the effective level (R32, R179), the checks of a bundle and of
each action (R33 to R37, R39 to R47), and the application (R38). -/

namespace Sys2Proof

/-! ## Conflicts (R35) -/

/-- What an action names: a notice by key, a panel or a gate by its code, the whole station, or nothing that another
action can name. -/
inductive OrderObject where
  | notice (k : NoticeKey)
  | panel (code : Nat)
  | gate (code : Nat)
  | station
  | nothing
deriving DecidableEq, Repr

/-- The object of a CLEAR_FAULT: 0x10 and up for a panel, otherwise a gate (13.2). -/
def faultObject (object : Nat) : OrderObject := if 16 ≤ object then .panel (object - 16) else .gate object

/-- The object an action names (R35). -/
def OrderAction.object : OrderAction → OrderObject
  | .issue _ _ _ _ _ _ => .nothing
  | .amend origin number _ _ _ _ _ => .notice ⟨origin, number⟩
  | .lift origin number => .notice ⟨origin, number⟩
  | .post panel _ _ _ => .panel panel
  | .clearPost panel => .panel panel
  | .holdOpen gate => .gate gate
  | .holdClosed gate => .gate gate
  | .release gate => .gate gate
  | .forceClose gate => .gate gate
  | .clearFault object => faultObject object
  | .restart => .station

/-- Two actions of one bundle conflict: they name the same object, or one of them is a RESTART (R35). -/
def conflicts (x y : OrderAction) : Bool :=
  x.object == .station || y.object == .station || (x.object == y.object && x.object != .nothing)

/-- An action is an ISSUE. -/
def OrderAction.isIssue (a : OrderAction) : Bool := a.object == .nothing

/-- An action changes the notice table. -/
def OrderAction.onNotices : OrderAction → Bool
  | .issue _ _ _ _ _ _ => true
  | .amend _ _ _ _ _ _ _ => true
  | .lift _ _ => true
  | .post _ _ _ _ => false
  | .clearPost _ => false
  | .holdOpen _ => false
  | .holdClosed _ => false
  | .release _ => false
  | .forceClose _ => false
  | .clearFault _ => false
  | .restart => false

end Sys2Proof

namespace Sys2Proof.Machine

/-! ## The key level (R179) -/

/-- The debounce timer of the input with a role is running. -/
def State.debouncing (s : State) (r : InputRole) : Bool := (s.inputOf r).any fun x => x.timer.isSome

/-- The key level: 3 between positions, otherwise decoded from the two debounced key levels (R179). -/
def State.keyLevel (s : State) : Nat :=
  if s.debouncing .keyBit0 || s.debouncing .keyBit1 then 3
  else
    match s.inputLevel .keyBit1, s.inputLevel .keyBit0 with
    | false, false => 3
    | false, true => 2
    | true, false => 1
    | true, true => 0

/-- The effective level of a requested level: the weaker of it and the key level, that is, the larger number (R32). -/
def State.effective (s : State) (requested : Nat) : Nat := max s.keyLevel requested

/-! ## Room (R36) -/

/-- The keys that the AMENDs and LIFTs of a bundle name (R36). -/
def namedKeys (acts : List OrderAction) : List NoticeKey :=
  acts.filterMap fun a =>
    match a.object with
    | .notice k => some k
    | .panel _ => none
    | .gate _ => none
    | .station => none
    | .nothing => none

/-- A record that R9 could evict: a tombstone or an IN_FORCE ADVISORY (R36). -/
def NoticeRecord.evictable (r : NoticeRecord) : Bool := !r.notice.inForce || r.notice.kind == .advisory

/-- The room of a bundle: the free slots and the records that could be evicted, less those it names (R36). -/
def State.room (s : State) (acts : List OrderAction) : Nat :=
  s.engine.table.countP fun r => r.all fun r => r.evictable && !(namedKeys acts).contains r.notice.key

/-! ## The checks of an action (R39 to R47) -/

/-- The reason of the first check of a list that fails, or none where all pass (R34). -/
def firstFailing : List (Bool × Reason) → Option Reason
  | [] => none
  | (ok, r) :: rest => if ok then firstFailing rest else some r

/-- The field checks that ISSUE and AMEND share (R39, check 2; R40, check 6). -/
def noticeFieldsGood (kind first last remaining : Nat) (message : Option Nat) : Bool :=
  (kindOf kind).isSome && decide (first ≤ 31) && decide (last ≤ 31) && decide (first ≤ last) &&
  decide (remaining ≤ 10080) && message.all fun d => decide (d ≤ 31)

/-- A message, where given, is present (R39, R40). -/
def State.messagePresent (s : State) (message : Option Nat) : Bool := message.all fun d => (s.descriptor d).present

/-- The effective level is no weaker than the post level of a message, where given (R39, R40). -/
def State.messageLevel (s : State) (e : Nat) (message : Option Nat) : Bool :=
  message.all fun d => decide (e ≤ (s.descriptor d).cfg.postLevel)

/-- The held record of a key (R40, R41). -/
def State.recordOf (s : State) (k : NoticeKey) : Option NoticeRecord :=
  (slotOf s.engine.table k).bind (recordAt s.engine.table)

/-- The checks of ISSUE, the `k`-th of its bundle (R39). -/
def State.checkIssue (s : State) (e room k kind cause first last remaining : Nat) (message : Option Nat) :
    Option Reason :=
  firstFailing
    [(!s.settling, .settling),
     (noticeFieldsGood kind first last remaining message && (causeOf cause).isSome, .badField),
     (s.messagePresent message, .notPresent),
     (s.messageLevel e message, .level),
     (k ≤ room, .tableFull)]

/-- A notice key is in range (R40, R41). -/
def keyInRange (k : NoticeKey) : Bool := 1 ≤ k.origin && k.origin ≤ 60 && k.number ≤ 255

/-- The checks that AMEND and LIFT share: the key, the record, its state and its level (R40, R41). -/
def State.checkHeld (s : State) (e : Nat) (k : NoticeKey) : List (Bool × Reason) :=
  [(keyInRange k, .badField),
   ((s.recordOf k).isSome, .notFound),
   ((s.recordOf k).any fun r => r.notice.inForce, .notInForce),
   ((s.recordOf k).any fun r => decide (e ≤ r.notice.level), .level)]

/-- The checks of AMEND (R40). -/
def State.checkAmend (s : State) (e : Nat) (k : NoticeKey) (kind first last remaining : Nat) (message : Option Nat) :
    Option Reason :=
  firstFailing (s.checkHeld e k ++
    [((s.recordOf k).any fun r => decide (r.notice.version ≤ 13), .versionLimit),
     (noticeFieldsGood kind first last remaining message, .badField),
     (s.messagePresent message, .notPresent),
     (s.messageLevel e message, .level)])

/-- The checks of LIFT (R41). -/
def State.checkLift (s : State) (e : Nat) (k : NoticeKey) : Option Reason := firstFailing (s.checkHeld e k)

/-- A panel of a code is configured. -/
def State.panelFitted (s : State) (code : Nat) : Bool := (Panel.ofCode code).any fun p => (s.cfg.panels.get p).isSome

/-- A gate of a code is configured. -/
def State.gateFitted (s : State) (code : Nat) : Bool := (GateId.ofCode code).any fun g => (s.cfg.gates.get g).isSome

/-- The OPERATOR claim of a panel, where its stack holds one. -/
def State.postOf (s : State) (p : Panel) : Option Claim := (s.displays.get p).claims.find? fun c => c.id == .operator

/-- The highest priority a post may take at an effective level (R42). -/
def priorityCap : Nat → Nat
  | 0 => 15
  | 1 => 13
  | _ => 11

/-- The effective level is no weaker than the level of a panel's post, where it has one. -/
def State.postLevel (s : State) (e code : Nat) : Bool :=
  ((Panel.ofCode code).bind s.postOf).all fun c => c.level.all fun l => decide (e ≤ l)

/-- The checks of POST (R42). -/
def State.checkPost (s : State) (e panel descriptor priority duration : Nat) : Option Reason :=
  firstFailing
    [((Panel.ofCode panel).isSome && decide (descriptor ≤ 63) && decide (priority ≤ 15) && decide (duration ≤ 1440),
      .badField),
     (s.panelFitted panel, .notFitted),
     ((s.descriptor descriptor).present, .notPresent),
     ((Panel.ofCode panel).any fun p => (s.descriptor descriptor).cfg.mask.get p, .notAllowed),
     (e ≤ (s.descriptor descriptor).cfg.postLevel, .level),
     (priority ≤ priorityCap e, .priority),
     (s.postLevel e panel, .level)]

/-- The checks of CLEAR_POST (R43). -/
def State.checkClearPost (s : State) (e panel : Nat) : Option Reason :=
  firstFailing
    [((Panel.ofCode panel).isSome, .badField),
     (s.panelFitted panel, .notFitted),
     (((Panel.ofCode panel).bind s.postOf).isSome, .notFound),
     (s.postLevel e panel, .level)]

/-- The effective level is no weaker than a gate's hold level, where it is in a held mode (R44). -/
def State.holdLevelOk (s : State) (e code : Nat) : Bool :=
  (GateId.ofCode code).all fun g =>
    (s.gates.get g).mode == .auto || (s.gates.get g).holdLevel.all fun l => decide (e ≤ l)

/-- The checks of HOLD_OPEN, HOLD_CLOSED and RELEASE, with the weakest level the action allows (R44). -/
def State.checkMode (s : State) (e weakest gate : Nat) : Option Reason :=
  firstFailing
    [((GateId.ofCode gate).isSome, .badField),
     (s.gateFitted gate, .notFitted),
     (e ≤ weakest, .level),
     (s.holdLevelOk e gate, .level)]

/-- The checks of FORCE_CLOSE (R45). -/
def State.checkForceClose (s : State) (e gate : Nat) : Option Reason :=
  firstFailing
    [((GateId.ofCode gate).isSome, .badField),
     (s.gateFitted gate, .notFitted),
     (e = 0, .level)]

/-- The checks of CLEAR_FAULT on a panel or a gate (R46). -/
def State.checkClearFault (s : State) : OrderObject → Option Reason
  | .panel code =>
    firstFailing
      [((Panel.ofCode code).isSome, .badField),
       (s.panelFitted code, .notFitted),
       ((Panel.ofCode code).any fun p => (s.panels.get p).state == .fault, .notFaulted)]
  | .gate code =>
    firstFailing
      [((GateId.ofCode code).isSome, .badField),
       (s.gateFitted code, .notFitted),
       ((GateId.ofCode code).any fun g => (s.gates.get g).state == .fault, .notFaulted)]
  | .notice _ => some .badField
  | .station => some .badField
  | .nothing => some .badField

/-- The own checks of an action at an effective level, with the room of its bundle and the count of its ISSUEs up to and
with this action (R34, R39 to R47). -/
def State.checkAction (s : State) (e room k : Nat) : OrderAction → Option Reason
  | .issue kind cause first last remaining message => s.checkIssue e room k kind cause first last remaining message
  | .amend origin number kind first last remaining message =>
    s.checkAmend e ⟨origin, number⟩ kind first last remaining message
  | .lift origin number => s.checkLift e ⟨origin, number⟩
  | .post panel descriptor priority duration => s.checkPost e panel descriptor priority duration
  | .clearPost panel => s.checkClearPost e panel
  | .holdOpen gate => s.checkMode e 1 gate
  | .holdClosed gate => s.checkMode e 2 gate
  | .release gate => s.checkMode e 2 gate
  | .forceClose gate => s.checkForceClose e gate
  | .clearFault object => s.checkClearFault (faultObject object)
  | .restart => firstFailing [(e = 0, .level)]

/-! ## The checks of a bundle (R33, R34) -/

/-- The first failing check of the actions of a bundle, in order: the conflict check against the actions before it, then
its own checks (R34, R35). `before` holds the actions before. -/
def State.judgeActions (s : State) (e room : Nat) (before : List OrderAction) :
    List OrderAction → Option (Nat × Reason)
  | [] => none
  | a :: rest =>
    let k := (before ++ [a]).countP OrderAction.isIssue
    if before.any (conflicts a) then some (before.length + 1, .conflict)
    else
      match s.checkAction e room k a with
      | some r => some (before.length + 1, r)
      | none => s.judgeActions e room (before ++ [a]) rest

/-- The first failing check of a decoded bundle, with the action index of its refusal (R33, R34). -/
def State.judge (s : State) (requested : Nat) (acts : List OrderAction) : Option (Nat × Reason) :=
  if 3 < requested then some (0, .badField)
  else if acts = [] ∨ 3 < acts.length then some (0, .badField)
  else if s.effective requested = 3 then some (0, .noAuthority)
  else s.judgeActions (s.effective requested) (s.room acts) [] acts

/-! ## Application (R38) -/

/-- The notice change of an action, before the one recomputation, and the key an ISSUE is assigned (R38 to R41). -/
def State.applyNotice (s : State) (e : Nat) (named : List NoticeKey) : OrderAction → State × List NoticeKey
  | .issue kind cause first last remaining message =>
    match kindOf kind, causeOf cause with
    | some k, some c =>
      match s.issueNotice ⟨k, c, first, last, message, remaining, e, none⟩ named .order with
      | some (t, key) => (t, [key])
      | none => (s, [])
    | _, _ => (s, [])
  | .amend origin number kind first last remaining message =>
    match slotOf s.engine.table ⟨origin, number⟩, kindOf kind with
    | some i, some k => (s.amendSlot i e k first last remaining message, [])
    | _, _ => (s, [])
  | .lift origin number =>
    match slotOf s.engine.table ⟨origin, number⟩ with
    | some i => (s.liftSlot i .order, [])
    | none => (s, [])
  | .post _ _ _ _ => (s, [])
  | .clearPost _ => (s, [])
  | .holdOpen _ => (s, [])
  | .holdClosed _ => (s, [])
  | .release _ => (s, [])
  | .forceClose _ => (s, [])
  | .clearFault _ => (s, [])
  | .restart => (s, [])

/-- The notice changes of a bundle in action order, and the assigned keys. -/
def State.applyNotices (s : State) (e : Nat) (named : List NoticeKey) : List OrderAction → State × List NoticeKey
  | [] => (s, [])
  | a :: rest =>
    let x := s.applyNotice e named a
    let y := x.1.applyNotices e named rest
    (y.1, x.2 ++ y.2)

/-- The OPERATOR claim of a POST (R42). -/
def postClaim (descriptor priority duration e minute now : Nat) : Claim where
  id := .operator
  descriptor := descriptor
  priority := priority
  placed := now
  level := some e
  endTime := if duration = 0 then none else some (minute + duration)

/-- A gate's mode set by an order, with its hold level (R44, R45). -/
def State.setMode (s : State) (gate : Nat) (mode : GateMode) (level : Option Nat) : State :=
  match GateId.ofCode gate with
  | some g => s.setGate g { s.gates.get g with mode := mode, holdLevel := level }
  | none => s

/-- FORCE_CLOSE sets the bypass mark unless the gate is CLOSED (R45). -/
def State.setBypass (s : State) (gate : Nat) : State :=
  match GateId.ofCode gate with
  | some g => if (s.gates.get g).state = .closed then s else s.setGate g { s.gates.get g with bypass := true }
  | none => s

/-- The change an action makes to a stack or to a gate's mode, before any gate re-evaluates (R38, R42 to R45, R47). -/
def State.applyRecord (s : State) (e : Nat) : OrderAction → State
  | .post panel descriptor priority duration =>
    match Panel.ofCode panel with
    | some p => s.changeStack p (placeClaim (postClaim descriptor priority duration e s.minute s.clock))
    | none => s
  | .clearPost panel =>
    match Panel.ofCode panel with
    | some p => s.changeStack p (withdrawClaim .operator)
    | none => s
  | .holdOpen gate => s.setMode gate .heldOpen (some e)
  | .holdClosed gate => s.setMode gate .heldClosed (some e)
  | .release gate => s.setMode gate .auto none
  | .forceClose gate => (s.setMode gate .heldClosed (some 0)).setBypass gate
  | .restart => { s with port := { s.port with restart := true } }
  | .issue _ _ _ _ _ _ => s
  | .amend _ _ _ _ _ _ _ => s
  | .lift _ _ => s
  | .clearFault _ => s

/-- What follows from the state after the whole bundle: a gate whose mode was given re-evaluates its demand, a FORCE_CLOSE
tests the lowering conditions as well, and a CLEAR_FAULT begins its recovery (R38, R45, R46, R58, R71, R111). -/
def State.applyEffect (s : State) : OrderAction → State
  | .holdOpen gate => (GateId.ofCode gate).elim s s.reevaluate
  | .holdClosed gate => (GateId.ofCode gate).elim s s.reevaluate
  | .release gate => (GateId.ofCode gate).elim s s.reevaluate
  | .forceClose gate => (GateId.ofCode gate).elim s fun g => (s.reevaluate g).testLowering g
  | .clearFault object =>
    match faultObject object with
    | .panel code => (Panel.ofCode code).elim s s.recoverPanel
    | .gate code =>
      match GateId.ofCode code with
      | some g => (s.cfg.gates.get g).elim s (s.recoverGate g)
      | none => s
    | .notice _ => s
    | .station => s
    | .nothing => s
  | .issue _ _ _ _ _ _ => s
  | .amend _ _ _ _ _ _ _ => s
  | .lift _ _ => s
  | .post _ _ _ _ => s
  | .clearPost _ => s
  | .restart => s

/-- A bundle whose checks have all passed is applied: the notice actions with one recomputation, then the stacks and the
modes, then the re-evaluations (R38). -/
def State.applyBundle (s : State) (e : Nat) (acts : List OrderAction) : State × List NoticeKey :=
  let x := s.applyNotices e (namedKeys acts) acts
  let t := if acts.any OrderAction.onNotices then x.1.commit else x.1
  (acts.foldl State.applyEffect (acts.foldl (fun t a => t.applyRecord e a) t), x.2)

/-- A refused bundle changes nothing but that its refusal is answered (R34, R37). -/
def State.refuse (s : State) (index : Nat) (r : Reason) : State := s.respond .refused [byte index, byte r.code]

/-- The Order Unit takes a decoded bundle: it is refused whole, or applied whole and answered with the assigned keys (R33,
R34, R37, R38). -/
def State.takeBundle (s : State) (requested : Nat) (acts : List OrderAction) : State :=
  match s.judge requested acts with
  | some (i, r) => s.refuse i r
  | none =>
    let x := s.applyBundle (s.effective requested) acts
    x.1.respond .ok (x.2.flatMap fun k => [byte k.origin, byte k.number])

/-! ## The commands (R33, R39 to R47) -/

/-- ORDER (R33): the body is decoded in full before any check. -/
def execOrder (body : List Byte) (s : State) : Host.Outcome State Fault Refusal :=
  s.serve (.order body) fun s =>
    match decodeOrder body with
    | .error i => s.refuse i .badField
    | .ok (requested, acts) => s.takeBundle requested acts

/-- ISSUE (R39), as a bundle of that one action. -/
def execIssue (level kind cause first last remaining : Nat) (message : Option Nat) (s : State) :
    Host.Outcome State Fault Refusal :=
  s.serve (.issue level kind cause first last remaining message) fun s =>
    s.takeBundle level [.issue kind cause first last remaining message]

/-- AMEND (R40), as a bundle of that one action. -/
def execAmend (level origin number kind first last remaining : Nat) (message : Option Nat) (s : State) :
    Host.Outcome State Fault Refusal :=
  s.serve (.amend level origin number kind first last remaining message) fun s =>
    s.takeBundle level [.amend origin number kind first last remaining message]

/-- LIFT (R41), as a bundle of that one action. -/
def execLift (level origin number : Nat) (s : State) : Host.Outcome State Fault Refusal :=
  s.serve (.lift level origin number) fun s => s.takeBundle level [.lift origin number]

/-- POST (R42), as a bundle of that one action. -/
def execPost (level panel descriptor priority duration : Nat) (s : State) : Host.Outcome State Fault Refusal :=
  s.serve (.post level panel descriptor priority duration) fun s =>
    s.takeBundle level [.post panel descriptor priority duration]

/-- CLEAR_POST (R43), as a bundle of that one action. -/
def execClearPost (level panel : Nat) (s : State) : Host.Outcome State Fault Refusal :=
  s.serve (.clearPost level panel) fun s => s.takeBundle level [.clearPost panel]

/-- HOLD_OPEN (R44), as a bundle of that one action. -/
def execHoldOpen (level gate : Nat) (s : State) : Host.Outcome State Fault Refusal :=
  s.serve (.holdOpen level gate) fun s => s.takeBundle level [.holdOpen gate]

/-- HOLD_CLOSED (R44), as a bundle of that one action. -/
def execHoldClosed (level gate : Nat) (s : State) : Host.Outcome State Fault Refusal :=
  s.serve (.holdClosed level gate) fun s => s.takeBundle level [.holdClosed gate]

/-- RELEASE (R44), as a bundle of that one action. -/
def execRelease (level gate : Nat) (s : State) : Host.Outcome State Fault Refusal :=
  s.serve (.release level gate) fun s => s.takeBundle level [.release gate]

/-- FORCE_CLOSE (R45), as a bundle of that one action. -/
def execForceClose (level gate : Nat) (s : State) : Host.Outcome State Fault Refusal :=
  s.serve (.forceClose level gate) fun s => s.takeBundle level [.forceClose gate]

/-- CLEAR_FAULT (R46), as a bundle of that one action. -/
def execClearFault (level object : Nat) (s : State) : Host.Outcome State Fault Refusal :=
  s.serve (.clearFault level object) fun s => s.takeBundle level [.clearFault object]

/-- RESTART (R47), as a bundle of that one action. -/
def execRestart (level : Nat) (s : State) : Host.Outcome State Fault Refusal :=
  s.serve (.restart level) fun s => s.takeBundle level [.restart]

end Sys2Proof.Machine
end

