-- ==== Sys2Proof/Machine/Readouts.lean ====
section
/-! DEFINITION. What a READ at the service port reports (R184): each object's fields in the order its owning rule lists
them, encoded as R190 and 13.2 give (log 14 says what the model takes for the fields whose width or code the manual leaves
open). -/

namespace Sys2Proof.Machine

/-! ## Times, codes and lists (R190, 13.2) -/

/-- A minute value: two bytes, modulo 65536. -/
def minuteBytes (m : Nat) : List Byte := word (m % 65536)

/-- An optional minute value. -/
def optMinute : Option Nat → List Byte
  | some m => minuteBytes m
  | none => [0xFF#8, 0xFF#8]

/-- A time finer than a minute: four bytes, in milliseconds of the station clock, modulo 2^32. -/
def timeBytes (us : Nat) : List Byte := word4 (us / 1000 % 4294967296)

/-- An optional time finer than a minute (log 14). -/
def optTime : Option Nat → List Byte
  | some t => timeBytes t
  | none => [0xFF#8, 0xFF#8, 0xFF#8, 0xFF#8]

/-- A list of varying length: its item count, followed by the items. -/
def listBytes {α : Type} (xs : List α) (item : α → List Byte) : List Byte := byte xs.length :: xs.flatMap item

/-- A level or state of which active comes first in the list of its rule and inactive second (R88, R173, R190). -/
def activeByte (active : Bool) : Byte := if active then 0#8 else 1#8

/-- A timer: running, then stopped (R49, R190). -/
def timerByte : Option Nat → Byte
  | some _ => 0#8
  | none => 1#8

/-- The code of a gate mode (R49, R190). -/
def modeCode : GateMode → Nat
  | .auto => 0
  | .heldOpen => 1
  | .heldClosed => 2

/-- The code of a demand (R49). -/
def demandCode : Demand → Nat
  | .opening => 0
  | .closing => 1

/-- The code of a gate's fault cause (R49). -/
def gateFaultCode : GateFault → Nat
  | .motionTimeout => 0
  | .limitConflict => 1
  | .displaced => 2
  | .obstructed => 3
  | .positionUnknown => 4

/-- The code of a panel state (R99). -/
def panelStateCode : PanelState → Nat
  | .dark => 0
  | .showing => 1
  | .fault => 2

/-- The code of a render state (R99). -/
def renderCode : Render → Nat
  | .idle => 0
  | .running _ => 1
  | .ready => 2

/-- The code of a flash phase (R99). -/
def phaseCode : FlashPhase → Nat
  | .shown => 0
  | .blank => 1

/-- The code of a panel's fault cause (R99). -/
def panelFaultCode : PanelFault → Nat
  | .rowOpen => 0

/-- The code of a validity (R114). -/
def validityCode : Validity → Nat
  | .notConfigured => 0
  | .unmeasured => 1
  | .valid => 2
  | .failed => 3

/-- The code of a measurand (R88, R94). -/
def measurandCode : Measurand → Nat
  | .roadTemp => 0
  | .airTemp => 1
  | .wind => 2
  | .newSnow => 3

/-- The code of a granularity (R76). -/
def granularityCode : Granularity → Nat
  | .cell => 0
  | .line => 1

/-- The code of a path action (R128). -/
def pathActionCode : PathAction → Nat
  | .none => 0
  | .convoy => 1
  | .fullClosure => 2

/-- The code of an outstanding request (R130). -/
def requestCode : Request → Nat
  | .none => 0
  | .issue => 1
  | .lift _ => 2

/-- The code of an edge selection (R173). -/
def edgeCode : EdgeSelection → Nat
  | .none => 0
  | .rising => 1
  | .falling => 2
  | .both => 3

/-- The code of an input role: its place in the list of R173, a role of a gate or panel taking one place for each (log
14). -/
def inputRoleCode : InputRole → Nat
  | .gateUp g => 0 + g.code
  | .gateDown g => 2 + g.code
  | .beam g => 4 + g.code
  | .slidePulse => 6
  | .keyBit0 => 7
  | .keyBit1 => 8
  | .door => 9
  | .lineCarrier => 10
  | .panelSense p => 11 + p.code
  | .unused => 14

/-- The code of a path as a source key or in a path mask: local 0 to 3, then remote 0 to 3 (log 14). -/
def pathRefCode : PathRef → Nat
  | .ours i => i
  | .remote i => 4 + i

/-- The source kind of a claim (R80). -/
def sourceKind : ClaimId → Nat
  | .notice => 0
  | .hazard _ => 1
  | .weather _ => 2
  | .operator => 3
  | .gate _ => 4
  | .gateAhead => 5

/-- The source key of a claim, where its source has one (R80). -/
def sourceKey : ClaimId → Option Nat
  | .notice => none
  | .hazard p => some (pathRefCode p)
  | .weather i => some i
  | .operator => none
  | .gate g => some g.code
  | .gateAhead => none

/-- A claim's identity: source kind and source key. -/
def idBytes (c : ClaimId) : List Byte := [byte (sourceKind c), optByte (sourceKey c)]

/-- A notice key, or absent. -/
def keyBytes : Option NoticeKey → List Byte
  | some k => [byte k.origin, byte k.number]
  | none => [0xFF#8, 0xFF#8]

/-- The transmitter's state (R169). -/
def transmitterCode : Transmitter → Nat
  | .idle => 0
  | .waitGap _ => 1
  | .sending _ => 2

/-! ## The frame of a read (R184) -/

/-- A read answers OK with data, or BAD_INDEX where the index names nothing. -/
def State.answer (s : State) : Option (List Byte) → State
  | some data => s.respond .ok data
  | none => s.respond .badIndex []

/-- An index below a bound, with what it names. -/
def indexed (n bound : Nat) (data : List Byte) : Option (List Byte) := if n < bound then some data else none

/-! ## Notices and the section map (R31) -/

/-- The readout of a slot or key: a flag, and for a held record its carried and local fields (R1, R2, R31). -/
def State.noticeData (s : State) (i : Option Nat) : List Byte :=
  match i.bind fun i => (recordAt s.engine.table i).map fun r => (i, r) with
  | some (i, r) =>
    flag true :: encodeNotice r.notice (r.remaining s.minute) ++ optMinute r.expiry ++ minuteBytes r.heard ++
      [byte r.bestHop] ++ minuteBytes r.stamp ++ [flag r.early] ++ optMinute r.tombstone ++ [byte i]
  | none => [flag false]

/-- READ_NOTICE_BY_SLOT (R31, R184): a free slot is reported free. -/
def execReadNoticeBySlot (slot : Nat) (s : State) : Host.Outcome State Fault Refusal :=
  s.serve (.readNoticeBySlot slot) fun s => s.answer (indexed slot 32 (s.noticeData (some slot)))

/-- READ_NOTICE_BY_KEY (R31, R184): a key not held is reported not held. -/
def execReadNoticeByKey (origin number : Nat) (s : State) : Host.Outcome State Fault Refusal :=
  s.serve (.readNoticeByKey origin number) fun s =>
    s.answer (if 1 ≤ origin ∧ origin ≤ 60 then some (s.noticeData (slotOf s.engine.table ⟨origin, number⟩)) else none)

/-- The readout of a section map entry: its kind, coded 5 for NONE (log 14), and its governing notice (R30, R31). -/
def mapEntryData (e : MapEntry) : List Byte := byte ((e.kind.map kindCode).getD 5) :: keyBytes e.governing

/-- READ_SECTION_MAP_ENTRY (R30, R31). -/
def execReadSectionMapEntry (sec : Nat) (s : State) : Host.Outcome State Fault Refusal :=
  s.serve (.readSectionMapEntry sec) fun s => s.answer (indexed sec 32 (mapEntryData (s.engine.map.getD sec {})))

/-! ## Peers (R161) -/

/-- The readout of the contents of a bulletin, in the order of R161. -/
def bulletinData (b : Bulletin) : List Byte :=
  [byte b.home, flag b.settling, flag b.degraded, flag b.panelFault, flag b.gateFault] ++
  optSword b.road ++ optSword b.air ++ optWord (b.wind.map Int.toNat) ++ [optByte (b.snow.map Int.toNat)] ++
  [byte b.inForce] ++ listBytes b.paths encodePathReport ++ listBytes b.gates encodeGateReport

/-- The readout of a peer entry: a flag, set for an entry in use and clear for a free one (log 14), and for an entry in use its
fields (R161). -/
def peerData : Option Peer → List Byte
  | some x =>
    [flag true, byte x.sender] ++ timeBytes x.received ++ [byte x.missed, flag x.present] ++ bulletinData x.bulletin
  | none => [flag false]

/-- READ_PEER_ENTRY (R161). -/
def execReadPeerEntry (entry : Nat) (s : State) : Host.Outcome State Fault Refusal :=
  s.serve (.readPeerEntry entry) fun s => s.answer (indexed entry 16 (peerData (s.peer entry)))

/-! ## Paths (R150) -/

/-- The configuration of a local path, in the order of R128; the hold takes one byte (log 14). -/
def pathCfgData (c : PathCfg) : List Byte :=
  [byte c.number, byte c.wN, byte c.wW, byte c.wT, byte c.wA] ++ word c.tW ++ word c.tR ++ word c.tC ++
  [byte c.band, byte c.hold, byte (pathActionCode c.action), byte c.firstSec, byte c.lastSec, optByte c.message,
   byte c.warnDesc, byte c.closeDesc]

/-- The working state of a local path, in the order of R150. -/
def pathStateData (c : PathCfg) (x : PathRec) : List Byte :=
  [byte x.snow] ++ word x.windExcess ++ [byte x.warming, byte x.activity] ++
  word x.termN ++ word x.termW ++ word x.termT ++ word x.termA ++ word x.index ++ [byte x.level.rank] ++
  optWord (fallingPoint c x.level) ++ optMinute x.holdStart ++
  [byte x.effective.rank, flag x.degraded, flag x.inhibited, flag x.issuePending]

/-- The key and level of the IN_FORCE record that carries a path's tag, or none (R150). -/
def taggedData : Option Notice → List Byte
  | some n => keyBytes (some n.key) ++ [byte n.level]
  | none => keyBytes none ++ [0xFF#8]

/-- READ_LOCAL_PATH (R150). Where two IN_FORCE records carry the path's tag, the one in the lower slot is reported (log 30). -/
def execReadLocalPath (index : Nat) (s : State) : Host.Outcome State Fault Refusal :=
  s.serve (.readLocalPath index) fun s =>
    s.answer ((s.cfg.paths[index]?).map fun c =>
      pathCfgData c ++ pathStateData c (s.path index) ++
      [flag s.ringShort, byte (requestCode (s.path index).request)] ++ taggedData (s.tagged index).head?)

/-- The present peers that report a path number, in the order of their entry numbers, each with the level it reports, the first
where it reports the number twice (R150; log 31). -/
def State.reporters (s : State) (number : Nat) : List (Nat × Level) :=
  ((s.bulletin.peers.filterMap id).filter (·.present)).filterMap fun x =>
    (x.bulletin.paths.find? fun r => r.number = number).map fun r => (x.sender, r.level)

/-- READ_REMOTE_PATH (R150). -/
def execReadRemotePath (index : Nat) (s : State) : Host.Outcome State Fault Refusal :=
  s.serve (.readRemotePath index) fun s =>
    s.answer ((s.cfg.remotes[index]?).map fun c =>
      [byte c.number, byte c.warnDesc, byte c.closeDesc, byte (s.effectiveOf (.remote index)).rank] ++
      listBytes (s.reporters c.number) fun x => [byte x.1, byte x.2.rank])

/-! ## Sensors and the ring (R127) -/

/-- The readout of a ring record, with the number of records held and the running count (R127); the hour number takes two
bytes, modulo 65536 (log 14). -/
def State.ringData (s : State) (x : HourRec) : List Byte :=
  word (x.hour % 65536) ++ optWord (x.depth.map Int.toNat) ++ optSword x.air ++
  [byte x.activity, byte s.acq.ring.length, byte s.acq.running]

/-- READ_RING_RECORD (R127). -/
def execReadRingRecord (place : Nat) (s : State) : Host.Outcome State Fault Refusal :=
  s.serve (.readRingRecord place) fun s => s.answer ((s.acq.ring[place]?).map s.ringData)

/-- The measurand that a role's weather rules watch; LIGHT has none (R127). -/
def roleMeasurand : Role → Option Measurand
  | .roadTemp => some .roadTemp
  | .airTemp => some .airTemp
  | .wind => some .wind
  | .snowDepth => some .newSnow
  | .light => none

/-- The readout of a weather rule: its number and its state (R97, R127). -/
def State.rulesData (s : State) (r : Role) : List Byte :=
  match roleMeasurand r with
  | some m =>
    listBytes (s.cfg.rules.zipIdx.filter fun x => x.1.measurand = m) fun x => [byte x.2, activeByte (s.ruleActive x.2)]
  | none => []

/-- A filtered value: signed for a role that may be negative, otherwise unsigned (R114, R190). -/
def filteredBytes (r : Role) (v : Option Int) : List Byte :=
  match r with
  | .roadTemp => optSword v
  | .airTemp => optSword v
  | .wind => optWord (v.map Int.toNat)
  | .snowDepth => optWord (v.map Int.toNat)
  | .light => optWord (v.map Int.toNat)

/-- The readout of a scan entry: channel, sampling code, calibration and filter shift (R127). -/
def entryData (e : ScanEntry) : List Byte :=
  [byte e.channel, byte e.sampling] ++ word e.offset ++ sword e.gain ++ sword e.base ++ [byte e.shift]

/-- The readout of a role (R127). A role that is NOT_CONFIGURED reports that validity and no entry: that its values, fault count
and invalid-since time are left out with the entry, and the states of its rules follow the validity, is the model's choice
(log 14). -/
def State.roleData (s : State) (r : Role) : List Byte :=
  let x := s.acq.roles.get r
  (match s.cfg.scanList.find? fun e => e.role = some r with
    | some e =>
      byte (validityCode x.validity) :: filteredBytes r x.filtered ++ optWord x.raw ++ [byte x.faults] ++
        optTime x.invalidSince ++ entryData e
    | none => [byte (validityCode x.validity)]) ++ s.rulesData r

/-- The readout of an entry with the role NONE, by its list place from 0: its channel and its last raw value (R127). -/
def State.spareData (s : State) (i : Nat) : Option (List Byte) :=
  match s.cfg.scanList[i]? with
  | some e => if e.role = none then some (byte e.channel :: optWord (s.acq.spare.getD i none)) else none
  | none => none

/-- The data of a sensor role readout: 0 to 4 name a role, 0x80 plus a list position 1 to 12 a NONE entry (13.2). -/
def State.sensorData (s : State) (code : Nat) : Option (List Byte) :=
  match Role.ofCode code with
  | some r => some (s.roleData r)
  | none => if 129 ≤ code ∧ code ≤ 140 then s.spareData (code - 129) else none

/-- READ_SENSOR_ROLE (R127). -/
def execReadSensorRole (code : Nat) (s : State) : Host.Outcome State Fault Refusal :=
  s.serve (.readSensorRole code) fun s => s.answer (s.sensorData code)

/-! ## Descriptors and panels (R97, R112) -/

/-- A descriptor's field, its offset in two bytes, or absent (R76; log 14). -/
def fieldData : Option FieldCfg → List Byte
  | some f => byte (measurandCode f.measurand) :: word f.offset ++ [byte f.width]
  | none => [0xFF#8]

/-- The readout of a descriptor (R97). -/
def descriptorData (d : Descriptor) : List Byte :=
  [flag d.present] ++ word d.cfg.base ++
  [byte d.cfg.limit, byte (granularityCode d.cfg.granularity), byte d.cfg.postLevel, flag d.cfg.flash,
   panelSet d.cfg.mask] ++ fieldData d.cfg.field ++ [flag d.accessed]

/-- READ_DESCRIPTOR (R78, R97): the mark is reported as it stood and then cleared, in one change. -/
def execReadDescriptor (descriptor : Nat) (s : State) : Host.Outcome State Fault Refusal :=
  s.serve (.readDescriptor descriptor) fun s =>
    if descriptor < 64 then
      (s.mark descriptor false).respond .ok (descriptorData (s.descriptor descriptor))
    else s.respond .badIndex []

/-- The gate ahead of a panel, or absent (R79; log 14). -/
def gateAheadData : Option GateAheadCfg → List Byte
  | some a => [byte a.station, byte a.gate, byte a.descriptor]
  | none => [0xFF#8]

/-- The number of the input with a role, or absent (R48, R98). -/
def State.inputNumber (s : State) (r : InputRole) : Option Nat := s.inputs.findIdx? fun x => x.cfg.role == r

/-- The configuration of a panel: its drive in the order of R98, each flash period as one byte of tenths of a second, then its
claims in the order of R79 (log 14). -/
def State.panelCfgData (s : State) (p : Panel) (c : PanelCfg) : List Byte :=
  [byte c.rows, byte c.columns, byte c.flashOn, byte c.flashOff] ++
  c.steps.flatMap (fun x => word x.onTime ++ word x.threshold) ++
  [byte c.band, optByte (s.inputNumber (.panelSense p)), byte c.firstCover, byte c.lastCover,
   optByte c.defaults.fullClosure, optByte c.defaults.convoy, optByte c.defaults.oneLane, optByte c.defaults.chains,
   optByte c.defaults.advisory] ++
  listBytes c.pathMask (fun r => [byte (pathRefCode r)]) ++ listBytes c.weatherMask (fun i => [byte i]) ++
  gateAheadData c.gateAhead

/-- The claim of a front image as identity and placement time, or blank (R112; log 14). -/
def frontData : Option ClaimRef → List Byte
  | some c => flag true :: idBytes c.id ++ timeBytes c.placed
  | none => [flag false]

/-- One claim of a stack listing; level and end time for an OPERATOR claim only (R97). -/
def claimData (c : Claim) : List Byte :=
  idBytes c.id ++ [byte c.descriptor, byte c.priority] ++ timeBytes c.placed ++
  (if c.id = .operator then optByte c.level :: optMinute c.endTime else [])

/-- The readout of a panel with its stack listing (R97, R112). -/
def State.panelData (s : State) (p : Panel) (c : PanelCfg) : List Byte :=
  let x := s.panels.get p
  s.panelCfgData p c ++ [byte (panelStateCode x.state)] ++ frontData x.front.claim ++ [byte (renderCode x.render)] ++
  optTime x.leadShown ++ [byte (phaseCode x.phase), byte x.step] ++
  listBytes (x.misses.take c.rows) (fun n => [byte n]) ++
  [optByte (x.cause.map panelFaultCode), optByte x.faultRow] ++ listBytes (s.displays.get p).claims claimData

/-- READ_PANEL (R97, R112). -/
def execReadPanel (panel : Nat) (s : State) : Host.Outcome State Fault Refusal :=
  s.serve (.readPanel panel) fun s =>
    s.answer ((Panel.ofCode panel).bind fun p => (s.cfg.panels.get p).map fun c => s.panelData p c)

/-! ## Gates (R74) -/

/-- The configuration of a gate, in the order of R48: the pre-warning time in two bytes and the motion limit and the beam clear
time in one byte each, all in seconds, and its inputs by number, UP, DOWN and BEAM (R74; log 14). -/
def State.gateCfgData (s : State) (g : GateId) (c : GateCfg) : List Byte :=
  [byte c.guarded, byte (directionCode c.entry), panelSet c.approach, byte c.descriptor] ++ word c.preWarning ++
  [byte c.motionLimit, byte c.beamClear, flag c.onConvoy, optByte (s.inputNumber (.gateUp g)),
   optByte (s.inputNumber (.gateDown g)), optByte (s.inputNumber (.beam g))]

/-- The readout of a gate: the items of R74 in their order, then the fields of R49 that R74 does not list (log 14). -/
def State.gateData (s : State) (g : GateId) (c : GateCfg) : List Byte :=
  let x := s.gates.get g
  s.gateCfgData g c ++
  [byte (modeCode x.mode), optByte x.holdLevel, byte (gateStateCode x.state), byte (demandCode x.demand),
   byte x.retreats, flag x.bypass, flag x.settleHold, flag x.signWait, optByte (x.cause.map gateFaultCode),
   activeByte (s.up g), activeByte (s.down g), activeByte (s.beamBroken g)] ++
  optTime x.warnEntry ++ [timerByte x.motion, timerByte x.clear]

/-- READ_GATE (R74). -/
def execReadGate (gate : Nat) (s : State) : Host.Outcome State Fault Refusal :=
  s.serve (.readGate gate) fun s =>
    s.answer ((GateId.ofCode gate).bind fun g => (s.cfg.gates.get g).map fun c => s.gateData g c)

/-! ## Latches and counters (R171, R180) -/

/-- The readout of an input (R180). -/
def inputData (x : Input) : List Byte :=
  [byte (inputRoleCode x.cfg.role), activeByte x.terminal, activeByte x.debounced, byte (edgeCode x.cfg.edges), flag x.cfg.attention,
   flag x.latch]

/-- The readout of a station fault latch (R180). -/
def State.faultData (s : State) (l : FaultLatch) : List Byte :=
  [flag (s.faultSet l), flag (s.faultEnable l), flag (s.causeStands l)]

/-- The readout of the latches, with the key level and the level of ATTENTION, 1 for asserted and 0 for negated (R180; log 14). -/
def State.latchesData (s : State) : List Byte :=
  s.inputs.flatMap inputData ++ FaultLatch.all.flatMap s.faultData ++ [byte s.keyLevel, flag s.attention]

/-- READ_LATCHES (R180). -/
def execReadLatches (s : State) : Host.Outcome State Fault Refusal :=
  s.serve .readLatches fun s => s.respond .ok s.latchesData

/-- The readout of the counters: the eleven, the frames in the transmit queue, the transmitter state, the frames in each
inbox, and the overrun counter (R171, R184). -/
def State.countersData (s : State) : List Byte :=
  (s.line.counters.list ++ [s.bulletin.malformed, s.bulletin.tableFull]).flatMap word ++
  [byte s.line.size, byte (transmitterCode s.line.tx), byte s.line.noticeInbox.length, byte s.line.bulletinInbox.length] ++
  word s.port.overrun

/-- READ_COUNTERS (R171). -/
def execReadCounters (s : State) : Host.Outcome State Fault Refusal :=
  s.serve .readCounters fun s => s.respond .ok s.countersData

end Sys2Proof.Machine
end

