-- ==== Sys2Proof/Machine/Startup.lean ====
section
/-! DEFINITION. Chapter 12, the Configuration Loader: reset and the start-up states (R186), the checks of an image (R187,
13.3), RUNNING entry as each chapter gives it, and the end of the settle period (R188, R189). -/

namespace Sys2Proof.Machine

/-! ## Reset and LOADING (R186) -/

/-- RESET (R186): power-on or the reset pin, in any start-up state. -/
def execReset (s : State) : Host.Outcome State Fault Refusal := .next s.doReset

/-- LOADING_ENTRY (R186): RESET_HELD ends. -/
def execLoadingEntry (s : State) : Host.Outcome State Fault Refusal :=
  .next (if s.startUp = .resetHeld then { s with startUp := .loading } else s)

end Sys2Proof.Machine

namespace Sys2Proof

open Machine (unword)

/-! ## The checks of an image (R187) -/

/-- The image marker (13.3). -/
def imageMarker : List Byte := [0xA5#8, 0x3C#8, 0x69#8, 0x0E#8]

/-- The length that a header gives (13.3). -/
def Image.length (m : Image) : Nat := unword (m.header.getD 4 0#8) (m.header.getD 5 0#8)

/-- The sum that a header gives (13.3). -/
def Image.sum (m : Image) : Nat := unword (m.header.getD 6 0#8) (m.header.getD 7 0#8)

/-- The bytes that the length counts. -/
def Image.counted (m : Image) : List Byte := m.body.take m.length

/-- The content lengths of `k` sections that together fill a run of bytes, or none (R187, SECTION). -/
def sectionLengths : Nat → List Byte → Option (List Nat)
  | 0, [] => some []
  | 0, _ :: _ => none
  | k + 1, h :: l :: xs =>
    if unword h l ≤ xs.length then (sectionLengths k (xs.drop (unword h l))).map fun ls => unword h l :: ls else none
  | _ + 1, _ => none

/-- MARKER: the marker is the image marker. -/
def Image.markerGood (m : Image) : Bool := m.header.take 4 == imageMarker

/-- LENGTH: the length is at most 16384. -/
def Image.lengthGood (m : Image) : Bool := m.length ≤ 16384

/-- SUM: the sum agrees with the bytes read. -/
def Image.sumGood (m : Image) : Bool := (m.counted.map BitVec.toNat).sum % 65536 == m.sum

/-- SECTION: eleven sections fill the length, and the content of each takes exactly the bytes its length counts. -/
def Image.sectionsGood (m : Image) : Bool := m.counted.length == m.length && sectionLengths 11 m.counted == some m.used

/-! ### RANGE -/

/-- A number lies in a range. -/
def within (lo hi n : Nat) : Bool := lo ≤ n && n ≤ hi

/-- A signed number lies in a range. -/
def withinInt (lo hi x : Int) : Bool := lo ≤ x && x ≤ hi

/-- The station, line and port settings lie in range (R13, R20, R115, R151, R162, R181). -/
def settingsInRange (c : StationCfg) : Bool :=
  within 1 60 c.station && within 0 31 c.home && within 1 7 c.issueBudget && within 0 7 c.refreshBudget &&
  within 10 120 c.tombstoneHold && within 10 600 c.bulletinPeriod && within 1 10 c.scanPeriod &&
  [1200, 2400, 4800, 9600, 19200, 38400].contains c.lineRate &&
  [9600, 19200, 38400, 57600, 115200].contains c.portRate

/-- A scan entry lies in range (R113). -/
def entryInRange (e : ScanEntry) : Bool :=
  within 0 11 e.channel && within 0 255 e.sampling && within 0 4095 e.offset && withinInt (-32768) 32767 e.gain &&
  withinInt (-32768) 32767 e.base && within 0 4 e.shift

/-- A local path lies in range (R128). -/
def pathInRange (c : PathCfg) : Bool :=
  within 0 63 c.number && within 0 15 c.wN && within 0 15 c.wW && within 0 15 c.wT && within 0 15 c.wA &&
  within 1 1000 c.tW && within 1 1000 c.tR && within 1 1000 c.tC && within 0 200 c.band && within 0 240 c.hold &&
  within 0 31 c.lastSec && within 0 c.lastSec c.firstSec && c.message.all (within 0 31) && within 0 63 c.warnDesc &&
  within 0 63 c.closeDesc

/-- A remote path lies in range (R129). -/
def remoteInRange (c : RemoteCfg) : Bool := within 0 63 c.number && within 0 63 c.warnDesc && within 0 63 c.closeDesc

/-- The range of a weather rule's measurand (R88). -/
def measurandRange : Measurand → Int × Int
  | .roadTemp => (-500, 500)
  | .airTemp => (-500, 500)
  | .wind => (0, 600)
  | .newSnow => (0, 200)

/-- A weather rule lies in range (R88). -/
def ruleInRange (c : RuleCfg) : Bool :=
  withinInt (measurandRange c.measurand).1 (measurandRange c.measurand).2 c.setValue &&
  withinInt (measurandRange c.measurand).1 (measurandRange c.measurand).2 c.clearValue && within 0 63 c.descriptor &&
  within 1 7 c.priority

/-- A descriptor lies in range (R76, R96). -/
def descriptorInRange (c : DescriptorCfg) : Bool :=
  within 0 2047 c.base && within 0 127 c.limit && within 0 3 c.postLevel && c.field.all fun f => within 2 5 f.width

/-- A path of a path mask lies in range (R79). -/
def pathRefInRange : PathRef → Bool
  | .ours i => within 0 3 i
  | .remote i => within 0 3 i

/-- A panel lies in range (R79, R98). -/
def panelInRange (c : PanelCfg) : Bool :=
  (c.rows == 8 || c.rows == 16) && within 48 96 c.columns && c.columns % 6 == 0 && within 2 20 c.flashOn &&
  within 2 20 c.flashOff && c.steps.length == 8 &&
  c.steps.all (fun x => within 20 1000 x.onTime && within 0 1023 x.threshold) && within 0 255 c.band &&
  within 0 31 c.lastCover && within 0 c.lastCover c.firstCover && c.defaults.fullClosure.all (within 0 63) &&
  c.defaults.convoy.all (within 0 63) && c.defaults.oneLane.all (within 0 63) && c.defaults.chains.all (within 0 63) &&
  c.defaults.advisory.all (within 0 63) && c.pathMask.all pathRefInRange && c.weatherMask.all (within 0 7) &&
  c.gateAhead.all fun a => within 1 60 a.station && within 0 1 a.gate && within 0 63 a.descriptor

/-- The panels of a set. -/
def panelsOf (x : PerPanel Bool) : List Panel := Panel.all.filter x.get

/-- A gate lies in range (R48). -/
def gateInRange (c : GateCfg) : Bool :=
  within 0 31 c.guarded && !(panelsOf c.approach).isEmpty && within 0 63 c.descriptor && within 30 600 c.preWarning &&
  within 5 120 c.motionLimit && within 2 60 c.beamClear

/-- The configured panels of a configuration. -/
def StationCfg.panelList (c : StationCfg) : List PanelCfg := Panel.all.filterMap c.panels.get

/-- The fitted gates of a configuration. -/
def StationCfg.gateList (c : StationCfg) : List (GateId × GateCfg) :=
  GateId.all.filterMap fun g => (c.gates.get g).map fun x => (g, x)

/-- No list of a configuration is longer than its chapter allows (R75, R76, R88, R113, R128, R129, R173, R176). -/
def listsInRange (c : StationCfg) : Bool :=
  within 0 12 c.scanList.length && within 0 4 c.paths.length && within 0 4 c.remotes.length && within 0 8 c.rules.length &&
  within 0 2048 c.text.length && within 0 64 c.descriptors.length && within 0 16 c.inputs.length &&
  within 0 14 c.faultEnables.length

/-- RANGE: every field lies in the range its chapter gives, and every named value is a listed one. -/
def Image.rangeGood (m : Image) : Bool :=
  m.unlisted == 0 && settingsInRange m.fields && listsInRange m.fields && m.fields.scanList.all entryInRange &&
  m.fields.paths.all pathInRange && m.fields.remotes.all remoteInRange && m.fields.rules.all ruleInRange &&
  m.fields.descriptors.all descriptorInRange && m.fields.panelList.all panelInRange &&
  (m.fields.gateList.all fun x => gateInRange x.2) && m.fields.inputs.all fun x => within 0 255 x.debounce

/-! ### ORDER, UNIQUE, PANEL and GATE -/

/-- A weather rule's clear value lies strictly on the far side of its set value (R88). -/
def ruleOrdered (c : RuleCfg) : Bool :=
  match c.sense with
  | .atOrBelow => decide (c.setValue < c.clearValue)
  | .atOrAbove => decide (c.clearValue < c.setValue)

/-- The thresholds of steps 1 to 7 strictly ascend, and step 0's is 0 (R98). -/
def stepsOrdered (c : PanelCfg) : Bool :=
  (c.steps.map (·.threshold)).headD 0 == 0 && decide (((c.steps.map (·.threshold)).drop 1).Pairwise (· < ·))

/-- ORDER (R187). -/
def Image.orderGood (m : Image) : Bool :=
  (m.fields.paths.all fun c => decide (c.tW < c.tR) && decide (c.tR < c.tC)) && m.fields.panelList.all stepsOrdered &&
  m.fields.rules.all ruleOrdered

/-- UNIQUE (R187). -/
def Image.uniqueGood (m : Image) : Bool :=
  decide (m.fields.scanList.filterMap (·.role)).Nodup &&
  decide ((m.fields.inputs.map (·.role)).filter (· != .unused)).Nodup &&
  decide (m.fields.paths.map (·.number) ++ m.fields.remotes.map (·.number)).Nodup

/-- A path of a path mask is configured. -/
def StationCfg.hasPath (c : StationCfg) : PathRef → Bool
  | .ours i => i < c.paths.length
  | .remote i => i < c.remotes.length

/-- PANEL (R79, R187). -/
def Image.panelGood (m : Image) : Bool :=
  m.fields.panelList.all fun c =>
    c.pathMask.all m.fields.hasPath && (c.weatherMask.all fun i => i < m.fields.rules.length) &&
    within 0 4 c.pathMask.length && within 0 3 c.weatherMask.length

/-- A configuration gives an input a role. -/
def StationCfg.hasRole (c : StationCfg) (r : InputRole) : Bool := c.inputs.any fun x => x.role == r

/-- GATE (R48, R187). -/
def Image.gateGood (m : Image) : Bool :=
  m.fields.gateList.all fun x =>
    m.fields.hasRole (.gateUp x.1) && m.fields.hasRole (.gateDown x.1) && m.fields.hasRole (.beam x.1) &&
    (panelsOf x.2.approach).all fun p => (m.fields.panels.get p).isSome

/-- The checks in their order, each with the failure cause it sets (R187). -/
def Image.checks (m : Image) : List (Bool × FailureCause) :=
  [(m.markerGood, .marker), (m.lengthGood, .length), (m.sumGood, .sum), (m.sectionsGood, .sections),
   (m.rangeGood, .range), (m.orderGood, .order), (m.uniqueGood, .unique), (m.panelGood, .panel), (m.gateGood, .gate)]

/-- The failure cause of the first check that fails, or none (R187). -/
def Image.failure (m : Image) : Option FailureCause := (m.checks.find? fun x => !x.1).map (·.2)

end Sys2Proof

namespace Sys2Proof.Machine

/-! ## RUNNING entry (R187) -/

/-- The descriptor table of a configuration: an entry that fails its span check is not present (R76, R187). -/
def loadedStore (c : StationCfg) : List Descriptor :=
  (List.range 64).map fun i =>
    match c.descriptors[i]? with
    | some d => ⟨d, spanCheck d, false⟩
    | none => Descriptor.reset

/-- The input records at RUNNING entry: the debounced level is taken fresh from the terminal level, with no edge (R180). -/
def loadedInputs (c : StationCfg) (xs : List Input) : List Input :=
  xs.zipIdx.map fun x => ⟨c.inputs.getD x.2 {}, x.1.terminal, x.1.terminal, none, false⟩

/-- A role record at RUNNING entry: UNMEASURED where the scan list has an entry for it (R126). -/
def loadedRole (c : StationCfg) (r : Role) : RoleRec :=
  if c.scanList.any fun e => e.role = some r then
    { RoleRec.reset with validity := .unmeasured, invalidSince := some 0 }
  else RoleRec.reset

/-- The role records at RUNNING entry (R126). -/
def loadedRoles (c : StationCfg) : PerRole RoleRec :=
  ⟨loadedRole c .roadTemp, loadedRole c .airTemp, loadedRole c .wind, loadedRole c .snowDepth, loadedRole c .light⟩

/-- The port at RUNNING entry (R181): a frame being received is discarded, a response being sent goes on at the old
setting, and otherwise the configured rate and parity apply. -/
def Port.configured (x : Port) (c : StationCfg) : Port :=
  match x.state with
  | .responding _ _ => x
  | .serving _ => { x with rate := c.portRate, parity := c.portParity }
  | .idle => { x with rate := c.portRate, parity := c.portParity }
  | .receiving _ _ => { x with state := .idle, rate := c.portRate, parity := c.portParity }

/-- Every block takes its configuration and its start values (R13, R26, R76, R115, R126, R151, R180, R181, R187, R188). -/
def State.configure (s : State) (c : StationCfg) : State :=
  { s with
    startUp := .running
    failure := none
    settling := true
    clock := 0
    cfg := c
    store := loadedStore c
    engine := { s.engine with tickAt := some (c.bulletinPeriod * secondUs) }
    acq := { s.acq with
      roles := loadedRoles c
      nextScan := if c.scanList.isEmpty then none else some 0 }
    bulletin := { s.bulletin with nextAt := some (skewUs c) }
    inputs := loadedInputs c s.inputs
    port := s.port.configured c }

/-- A fitted gate takes its starting state from its limits (R72). -/
def State.startGates (s : State) : State :=
  s.fitted.foldl (fun s g =>
    match s.cfg.gates.get g with
    | some c => s.setGate g (startGate (s.up g) (s.down g) c s.clock)
    | none => s) s

/-- What is to be taken at the moment of RUNNING entry: the latches of the gates found in FAULT, the first scan, and the
first bulletin of a station without skew (R72, R115, R151). -/
def State.entryMessages (s : State) : List Instr :=
  ((s.fitted.filter fun g => (s.gates.get g).state == .fault).map fun g => .latchSetRequest (.gateFault g)) ++
  (if s.cfg.scanList.isEmpty then [] else [.scanStart]) ++
  (if skewUs s.cfg = 0 then [.bulletinTime] else [])

/-- The station enters RUNNING (R187). -/
def State.enterRunning (s : State) (c : StationCfg) : State :=
  let t := (s.configure c).startGates
  (t.tell t.entryMessages).follow

/-- The station enters UNCONFIGURED with a failure cause, and ATTENTION is asserted (R177, R186, R187). -/
def State.enterUnconfigured (s : State) (f : FailureCause) : State :=
  { s with startUp := .unconfigured, failure := some f }.follow

/-- LOADING_END (R187). -/
def execLoadingEnd (image : Image) (s : State) : Host.Outcome State Fault Refusal :=
  .next (if s.startUp = .loading then
    match image.failure with
    | some f => s.enterUnconfigured f
    | none => s.enterRunning image.fields
  else s)

/-! ## The settle period (R188, R189) -/

/-- The settle period has run: three bulletin periods from RUNNING entry (R188). -/
def State.settleRun (s : State) : Bool := s.settling && hasRun s.clock 0 (3 * s.periodUs)

/-- A gate clears its settle hold and re-evaluates its demand (R73, R189). -/
def State.releaseSettle (s : State) (g : GateId) : State :=
  (s.setGate g { s.gates.get g with settleHold := false }).reevaluate g

/-- The station stops settling and the next-number counter is learned, in one change; the gates follow (R22, R189). -/
def State.endSettle (s : State) : State :=
  let t := { s with
    settling := false
    engine := { s.engine with nextNumber := learnedNumber (numbersOf s.engine.table s.cfg.station) } }
  t.fitted.foldl State.releaseSettle t

/-- SETTLE_END (R189). -/
def execSettleEnd (s : State) : Host.Outcome State Fault Refusal :=
  s.event .settleEnd fun s => if s.settleRun then s.endSettle else s

end Sys2Proof.Machine
end

