-- ==== Sys2Proof/Machine/Dispatch.lean ====
section
/-! DEFINITION. Which meaning each command has. -/

namespace Sys2Proof.Machine

/-- The effect of a command on the station. -/
def exec (i : Instr) (s : State) : Host.Outcome State Fault Refusal :=
  match i with
  | .reset => Sys2Proof.Machine.execReset s
  | .loadingEntry => Sys2Proof.Machine.execLoadingEntry s
  | .loadingEnd image => Sys2Proof.Machine.execLoadingEnd image s
  | .settleEnd => Sys2Proof.Machine.execSettleEnd s
  | .noticeFrameTaken => Sys2Proof.Machine.execNoticeFrameTaken s
  | .noticeExpiry => Sys2Proof.Machine.execNoticeExpiry s
  | .tombstonePurge => Sys2Proof.Machine.execTombstonePurge s
  | .refreshTick => Sys2Proof.Machine.execRefreshTick s
  | .catchUp => Sys2Proof.Machine.execCatchUp s
  | .issue level kind cause first last remaining message => Sys2Proof.Machine.execIssue level kind cause first last remaining message s
  | .amend level origin number kind first last remaining message => Sys2Proof.Machine.execAmend level origin number kind first last remaining message s
  | .lift level origin number => Sys2Proof.Machine.execLift level origin number s
  | .post level panel descriptor priority duration => Sys2Proof.Machine.execPost level panel descriptor priority duration s
  | .clearPost level panel => Sys2Proof.Machine.execClearPost level panel s
  | .holdOpen level gate => Sys2Proof.Machine.execHoldOpen level gate s
  | .holdClosed level gate => Sys2Proof.Machine.execHoldClosed level gate s
  | .release level gate => Sys2Proof.Machine.execRelease level gate s
  | .forceClose level gate => Sys2Proof.Machine.execForceClose level gate s
  | .clearFault level object => Sys2Proof.Machine.execClearFault level object s
  | .restart level => Sys2Proof.Machine.execRestart level s
  | .status => Sys2Proof.Machine.execStatus s
  | .readNoticeBySlot slot => Sys2Proof.Machine.execReadNoticeBySlot slot s
  | .readNoticeByKey origin number => Sys2Proof.Machine.execReadNoticeByKey origin number s
  | .readSectionMapEntry sec => Sys2Proof.Machine.execReadSectionMapEntry sec s
  | .readPeerEntry entry => Sys2Proof.Machine.execReadPeerEntry entry s
  | .readLocalPath index => Sys2Proof.Machine.execReadLocalPath index s
  | .readRemotePath index => Sys2Proof.Machine.execReadRemotePath index s
  | .readRingRecord place => Sys2Proof.Machine.execReadRingRecord place s
  | .readSensorRole code => Sys2Proof.Machine.execReadSensorRole code s
  | .readDescriptor descriptor => Sys2Proof.Machine.execReadDescriptor descriptor s
  | .readPanel panel => Sys2Proof.Machine.execReadPanel panel s
  | .readGate gate => Sys2Proof.Machine.execReadGate gate s
  | .readLatches => Sys2Proof.Machine.execReadLatches s
  | .readCounters => Sys2Proof.Machine.execReadCounters s
  | .clearLatches inputs faults => Sys2Proof.Machine.execClearLatches inputs faults s
  | .clearCounters => Sys2Proof.Machine.execClearCounters s
  | .unknownRequest => Sys2Proof.Machine.execUnknownRequest s
  | .servicePortCharacter c framingError parityError => Sys2Proof.Machine.execServicePortCharacter c framingError parityError s
  | .requestGapTimeout => Sys2Proof.Machine.execRequestGapTimeout s
  | .responseComplete => Sys2Proof.Machine.execResponseComplete s
  | .demandReevaluation g => Sys2Proof.Machine.execDemandReevaluation g s
  | .preWarningExpiry g => Sys2Proof.Machine.execPreWarningExpiry g s
  | .shownDurationReached g p => Sys2Proof.Machine.execShownDurationReached g p s
  | .leadStateReport p => Sys2Proof.Machine.execLeadStateReport p s
  | .motionLimitExpiry g => Sys2Proof.Machine.execMotionLimitExpiry g s
  | .beamClearTimeExpiry g => Sys2Proof.Machine.execBeamClearTimeExpiry g s
  | .flasherPhase g => Sys2Proof.Machine.execFlasherPhase g s
  | .noticeClaim => Sys2Proof.Machine.execNoticeClaim s
  | .hazardClaim => Sys2Proof.Machine.execHazardClaim s
  | .weatherRuleEvaluation => Sys2Proof.Machine.execWeatherRuleEvaluation s
  | .postEnd => Sys2Proof.Machine.execPostEnd s
  | .gateClaimRequest g ask => Sys2Proof.Machine.execGateClaimRequest g ask s
  | .gateAheadClaim sender => Sys2Proof.Machine.execGateAheadClaim sender s
  | .fieldReformat p => Sys2Proof.Machine.execFieldReformat p s
  | .accessedMark descriptor => Sys2Proof.Machine.execAccessedMark descriptor s
  | .renderTrigger p lead => Sys2Proof.Machine.execRenderTrigger p lead s
  | .renderComplete p => Sys2Proof.Machine.execRenderComplete p s
  | .frameStart p => Sys2Proof.Machine.execFrameStart p s
  | .flashPeriodExpiry p => Sys2Proof.Machine.execFlashPeriodExpiry p s
  | .lampCheckSample p => Sys2Proof.Machine.execLampCheckSample p s
  | .brightnessEvaluation p light => Sys2Proof.Machine.execBrightnessEvaluation p light s
  | .scanStart => Sys2Proof.Machine.execScanStart s
  | .scanComplete raws => Sys2Proof.Machine.execScanComplete raws s
  | .slidePulse => Sys2Proof.Machine.execSlidePulse s
  | .hourlyAppend => Sys2Proof.Machine.execHourlyAppend s
  | .hazardComputation => Sys2Proof.Machine.execHazardComputation s
  | .automaticIssue path => Sys2Proof.Machine.execAutomaticIssue path s
  | .automaticLift path => Sys2Proof.Machine.execAutomaticLift path s
  | .noticeChangeReport r => Sys2Proof.Machine.execNoticeChangeReport r s
  | .effectiveLevelRecompute => Sys2Proof.Machine.execEffectiveLevelRecompute s
  | .bulletinTime => Sys2Proof.Machine.execBulletinTime s
  | .bulletinFrameTaken => Sys2Proof.Machine.execBulletinFrameTaken s
  | .periodBoundary entry => Sys2Proof.Machine.execPeriodBoundary entry s
  | .lineCharacterReceived c framingError => Sys2Proof.Machine.execLineCharacterReceived c framingError s
  | .receiveGapTimeout => Sys2Proof.Machine.execReceiveGapTimeout s
  | .transmitStart => Sys2Proof.Machine.execTransmitStart s
  | .transmitCharacterEnd => Sys2Proof.Machine.execTransmitCharacterEnd s
  | .terminalLevelChange input active => Sys2Proof.Machine.execTerminalLevelChange input active s
  | .debounceExpiry input => Sys2Proof.Machine.execDebounceExpiry input s
  | .latchSetRequest latch => Sys2Proof.Machine.execLatchSetRequest latch s
  | .order body => Sys2Proof.Machine.execOrder body s
  | .lineBusy => Sys2Proof.Machine.execLineBusy s

end Sys2Proof.Machine
end

