-- ==== Sys2Proof/Machine/Tick.lean ====
section
/-! DEFINITION. The passing of time: one microsecond of the station clock, and the events of the station's own timers that
come due at it (log 1). The order of events that come due at one moment is the model's choice (log 12): each chapter says
that either may be taken first, or that they act on different blocks. -/

namespace Sys2Proof.Machine

/-! ## One microsecond -/

/-- The panel records at a new moment: a row slot that begins takes the brightness step as it stands (R105, R106). -/
def State.slots (s : State) : PerPanel PanelRec :=
  ⟨s.panels.a.newSlot s.clock, s.panels.b.newSlot s.clock, s.panels.c.newSlot s.clock⟩

/-- One microsecond passes: in RUNNING the station clock, the line, the port and the row slots run; in LOADING and
UNCONFIGURED only the port runs; in RESET_HELD nothing does (R72, R99, R126, R172, R181, R182). -/
def State.runClock (s : State) : State :=
  match s.startUp with
  | .resetHeld => s
  | .loading => { s with port := s.port.tick }
  | .unconfigured => { s with port := s.port.tick }
  | .running =>
    let t := { s with
      clock := s.clock + 1
      line := s.line.tick s.cfg.lineRate (s.inputLevel .lineCarrier)
      port := s.port.tick }
    { t with panels := t.slots }

/-! ## The events that have come due -/

/-- One command where a condition holds. -/
def dueIf (b : Bool) (c : Instr) : List Instr := if b then [c] else []

/-- The events of the minute and hour boundaries (R19, R20, R89, R91, R124, R131). -/
def State.dueBoundary (s : State) : List Instr :=
  (if s.atMinute then [.noticeExpiry, .tombstonePurge, .weatherRuleEvaluation, .postEnd, .hazardComputation] else []) ++
  dueIf s.appendDue .hourlyAppend

/-- The events of the notice, bulletin and settle timers (R26, R151, R157, R189). -/
def State.duePeriods (s : State) : List Instr :=
  dueIf s.settleRun .settleEnd ++ dueIf (s.engine.tickAt.any (· ≤ s.clock)) .refreshTick ++
  dueIf (s.bulletin.nextAt.any (· ≤ s.clock)) .bulletinTime ++
  ((List.range 16).filter fun i => (s.peer i).any fun x => x.boundaryDue s.clock s.periodUs).map .periodBoundary

/-- The events of one fitted gate's timers (R51, R57, R59, R61, R67). -/
def State.dueGate (s : State) (g : GateId) : List Instr :=
  match s.cfg.gates.get g with
  | some c =>
    let x := s.gates.get g
    dueIf (x.state == .warning && x.warnEntry.any fun t => t + preWarnUs c == s.clock) (.preWarningExpiry g) ++
    ((s.counted c).filter fun p =>
      x.state == .warning && s.shownFor g p (preWarnUs c) &&
      (s.panels.get p).leadShown.any fun t => t + preWarnUs c == s.clock).map (.shownDurationReached g) ++
    dueIf (x.motion.any fun t => hasRun s.clock t (c.motionLimit * secondUs)) (.motionLimitExpiry g) ++
    dueIf (x.state == .waitClear && x.demand == .closing &&
      x.clear.any fun t => hasRun s.clock t (c.beamClear * secondUs)) (.beamClearTimeExpiry g) ++
    dueIf (x.flasher != flasherLevel x.state x.flashFrom s.clock) (.flasherPhase g)
  | none => []

/-- How long after a render has begun the model takes it as complete at the latest: 30 ms (R102; log 11). -/
def renderUs : Nat := 30000

/-- The render of a panel has run its longest time. -/
def PanelRec.renderDue (x : PanelRec) (now : Nat) : Bool :=
  match x.render with
  | .running t => hasRun now t renderUs
  | .idle => false
  | .ready => false

/-- A frame start comes by itself: at the end of the frame that runs, or for the first frame at the latest one frame
length after RUNNING entry (R105; log 11). -/
def PanelRec.frameComes (x : PanelRec) (c : PanelCfg) (now : Nat) : Bool := hasRun now (x.frameAt.getD 0) (frameUs c)

/-- The last microsecond of the on-time of a row's slot that has not been sampled (R108; log 11). -/
def State.sampleDue (s : State) (p : Panel) (c : PanelCfg) : Bool :=
  (s.sense p).isSome && ((s.panels.get p).sampleRow c s.clock).isSome &&
  ((s.panels.get p).slotAt c s.clock).any fun x => x.2 + 1 == onTime c (s.panels.get p).slotStep

/-- The events of one configured panel (R102, R105, R107, R108). -/
def State.duePanel (s : State) (p : Panel) : List Instr :=
  match s.cfg.panels.get p with
  | some c =>
    let x := s.panels.get p
    dueIf (x.renderDue s.clock) (.renderComplete p) ++ dueIf (x.periodRun c s.clock) (.flashPeriodExpiry p) ++
    dueIf (x.frameComes c s.clock) (.frameStart p) ++ dueIf (s.sampleDue p c) (.lampCheckSample p)
  | none => []

/-- The events of the scan, of the debounce timers and of the line (R115, R164, R169, R170, R174). -/
def State.dueFields (s : State) : List Instr :=
  dueIf (!s.cfg.scanList.isEmpty && s.acq.nextScan.any (· ≤ s.clock)) .scanStart ++
  ((List.range 16).filter fun i => (s.inputs[i]?).any fun x => x.timerRun s.clock).map .debounceExpiry ++
  dueIf s.line.ready.isSome .transmitStart ++
  dueIf (match s.line.tx with
    | .sending x => x.over
    | .idle => false
    | .waitGap _ => false) .transmitCharacterEnd ++
  dueIf s.line.gapRun .receiveGapTimeout

/-- The events of the service port (R181, R182). -/
def State.duePort (s : State) : List Instr :=
  match s.port.state with
  | .receiving _ gap => dueIf (gapOver gap) .requestGapTimeout
  | .responding _ 0 => [.responseComplete]
  | .responding _ _ => []
  | .idle => []
  | .serving _ => []

/-- The events that have come due at a moment, in the model's order (log 12). -/
def State.due (s : State) : List Instr :=
  (if s.running then
    s.dueBoundary ++ s.duePeriods ++ GateId.all.flatMap s.dueGate ++ Panel.all.flatMap s.duePanel ++ s.dueFields
  else []) ++ s.duePort

/-- Nothing waits to be taken: one microsecond passes, and the events that come due at its end wait to be taken; in
RESET_HELD the station idles (log 1). -/
def State.tick (s : State) : State := s.runClock.tell (if s.startUp = .resetHeld then [] else s.runClock.due)

end Sys2Proof.Machine
end

