-- ==== Sys2Proof/Machine/Step.lean ====
section
/-! DEFINITION. One step of the station: the command at the front of the queue is taken; with no command waiting, the
oldest message of the station's own blocks; with neither, one microsecond passes. -/

namespace Sys2Proof.Machine

/-- The step (logs 1 and 2). -/
def step (s : State) : Host.Outcome State Fault Refusal :=
  match s.pending with
  | c :: rest => exec c { s with pending := rest }
  | [] =>
    match s.told with
    | c :: _ => exec c s
    | [] => .next s.tick

/-- The state with the command that a word spells put at the front of its queue; unchanged where the word spells none
(log 15). -/
def State.withFetchWord (s : State) (nbits w : Nat) : State :=
  match Sys2Proof.decodeTableWord nbits w with
  | some c => { s with pending := c :: s.pending }
  | none => s

end Sys2Proof.Machine
end

