-- ==== Sys2Proof/Safety.lean ====
section
/-! DEFINITION. What the manual promises of every state of the station, block by block, each a property of one state that every
step is to keep; and the terms in which the statements say what a command leaves, spelled out from the manual's rules. -/

namespace Sys2Proof.Safety

open Machine

/-- The section map is the one that R30 works out from the whole table. -/
def MapCurrent (s : State) : Prop := s.engine.map = sectionMap s.engine.table

/-- The notice table has 32 slots and never holds two records with the same origin and number (R3). -/
def TableSound (s : State) : Prop :=
  s.engine.table.length = 32 ∧ ((s.engine.table.filterMap id).map fun r => r.notice.key).Nodup

/-- ATTENTION is at the level R177 gives. -/
def AttentionFollows (s : State) : Prop := s.attention = s.attentionLevel

/-- The outputs of a gate are those of its state (R51), and its timers, times, marks and fault cause stand only in the
states to which R49, R60, R61 and R67 give them. -/
def GateSound (x : Gate) : Prop :=
  (x.lower = true ↔ x.state = .lowering) ∧ (x.raise = true ↔ x.state = .raising ∨ x.state = .retreat) ∧
  (x.state = .opened → x.flasher = false) ∧ (x.state = .closed → x.flasher = true) ∧
  (x.motion.isSome = true ↔ x.lower = true ∨ x.raise = true) ∧ (x.clear.isSome = true → x.state = .waitClear) ∧
  (x.warnEntry.isSome = true ↔ x.state = .warning) ∧ (x.signWait = true → x.state = .warning) ∧
  (x.cause.isSome = true ↔ x.state = .fault) ∧ (x.holdLevel.isSome = true ↔ x.mode ≠ .auto)

/-- Every gate is sound. -/
def GatesSound (s : State) : Prop := ∀ g, GateSound (s.gates.get g)

/-- The drives of a gate are never on together (R51). -/
def DrivesApart (s : State) : Prop := ∀ g, ¬((s.gates.get g).lower = true ∧ (s.gates.get g).raise = true)

/-- One claim may stand before another: a higher priority, or the same and no older (R81). -/
def Before (x y : Claim) : Prop := y.priority < x.priority ∨ (x.priority = y.priority ∧ y.placed ≤ x.placed)

/-- A stack is in order, holds no two claims of one identity, and holds no claim from the future (R81). -/
def StackSound (now : Nat) (xs : List Claim) : Prop :=
  xs.Pairwise Before ∧ (xs.map (·.id)).Nodup ∧ ∀ c ∈ xs, c.placed ≤ now

/-- Every stack is sound, and empty while the station is not RUNNING (R81, R84). -/
def StacksSound (s : State) : Prop :=
  ∀ p, StackSound s.clock (s.displays.get p).claims ∧ (s.startUp ≠ .running → (s.displays.get p).claims = [])

/-- The state of a panel, its front image, its lead-shown time, its render, its miss counts and its fault agree (R99, R103,
R104, R109). -/
def PanelSound (x : PanelRec) : Prop :=
  (x.front.claim.isSome = true ↔ x.state = .showing) ∧ (x.leadShown.isSome = true ↔ x.state = .showing) ∧
  (x.state = .fault → x.render = .idle) ∧ (x.cause.isSome = true ↔ x.state = .fault) ∧
  (x.faultRow.isSome = true ↔ x.state = .fault) ∧
  (∀ n ∈ x.misses, n ≤ 3 ∧ (x.state ≠ .fault → n ≤ 2))

/-- Every panel is sound. -/
def PanelsSound (s : State) : Prop := ∀ p, PanelSound (s.panels.get p)

/-- The transmit queue holds at most 12 frames and at most one bulletin, no notice frame stands behind the bulletin, no two
unstarted frames have one key, and a transmitter that is not SENDING is IDLE exactly while no frame waits (R166, R168, R169). -/
def QueueSound (s : State) : Prop :=
  s.line.size ≤ 12 ∧ (s.line.waiting.filterMap Frame.key).Nodup ∧
  (∀ f ∈ s.line.waiting.dropLast, f.isBulletin = false) ∧
  (s.line.started.any Frame.isBulletin = true → ∀ f ∈ s.line.waiting, f.isBulletin = false) ∧
  (s.line.started = none → (s.line.tx = .idle ↔ s.line.waiting = []))

/-- Every notice frame that waits, and a started one that no withdrawal has found, is for a key held IN_FORCE or LIFTED
(R18). -/
def FramesHeld (s : State) : Prop :=
  (∀ f ∈ s.line.waiting, ∀ k, f.key = some k →
    ∃ r, some r ∈ s.engine.table ∧ r.notice.key = k ∧ r.notice.state ≠ .expired) ∧
  (∀ x, s.line.tx = .sending x → x.withdrawn = false → ∀ k, x.frame.key = some k →
    ∃ r, some r ∈ s.engine.table ∧ r.notice.key = k ∧ r.notice.state ≠ .expired)

/-- The notice inbox holds up to 8 frames and the bulletin inbox up to 4 (R165). -/
def InboxesSound (s : State) : Prop := s.line.noticeInbox.length ≤ 8 ∧ s.line.bulletinInbox.length ≤ 4

/-- The validity of a configured role, its filtered value, its fault count and its invalid-since time agree (R114, R120). -/
def RoleSound (x : RoleRec) : Prop :=
  (x.validity = .valid → x.filtered.isSome = true ∧ x.faults < 60 ∧ x.invalidSince = none) ∧
  (x.validity = .unmeasured → x.filtered = none ∧ x.faults < 60 ∧ x.invalidSince.isSome = true) ∧
  (x.validity = .failed → x.faults = 60 ∧ x.invalidSince.isSome = true)

/-- The role records are sound, the hourly ring holds at most 24 records in rising hour order, and the running count is at
most 255 (R123, R125). -/
def SensorsSound (s : State) : Prop :=
  (∀ r, RoleSound (s.acq.roles.get r)) ∧ s.acq.ring.length ≤ 24 ∧ (s.acq.ring.map (·.hour)).Pairwise (· < ·) ∧
  s.acq.running ≤ 255

/-- The peer table has 16 entries, never two with one sender, and an entry counts as present until three periods have been
missed (R155, R157). -/
def PeersSound (s : State) : Prop :=
  s.bulletin.peers.length = 16 ∧ ((s.bulletin.peers.filterMap id).map (·.sender)).Nodup ∧
  ∀ x ∈ s.bulletin.peers.filterMap id, x.missed < 10 ∧ (x.present = true ↔ x.missed < 3)

/-- There are 4 local path records and 4 remote path levels, and no more paths of either kind are configured (R128 to R130). -/
def PathsSound (s : State) : Prop :=
  s.hazard.paths.length = 4 ∧ s.cfg.paths.length ≤ 4 ∧ s.hazard.remotes.length = 4 ∧ s.cfg.remotes.length ≤ 4

/-! ## The section map (R30) -/

/-- One notice stands before another: the stronger kind, then the stronger level, then the lower origin, then the lower
number (R30). -/
def Stronger (x y : Notice) : Prop :=
  kindCode x.kind < kindCode y.kind ∨ (kindCode x.kind = kindCode y.kind ∧
    (x.level < y.level ∨ (x.level = y.level ∧
      (x.origin < y.origin ∨ (x.origin = y.origin ∧ x.number < y.number)))))

/-- A notice is held IN_FORCE and covers a section. -/
def CoversInForce (table : List (Option NoticeRecord)) (sec : Nat) (n : Notice) : Prop :=
  n ∈ (table.filterMap id).map (·.notice) ∧ n.state = .inForce ∧ n.firstSec ≤ sec ∧ sec ≤ n.lastSec

/-- A section map shows for each section the kind and the key of the IN_FORCE notice that stands before all others which
cover it, and NONE with no notice where none covers it (R30). -/
def MapShows (table : List (Option NoticeRecord)) (map : List MapEntry) : Prop :=
  map.length = 32 ∧ ∀ sec < 32, ∃ e, map[sec]? = some e ∧
    (∀ n, CoversInForce table sec n → (∀ m, CoversInForce table sec m → m = n ∨ Stronger n m) →
      e = ⟨some n.kind, some n.key⟩) ∧
    ((∀ n, ¬CoversInForce table sec n) → e = ⟨none, none⟩)

/-! ## Room in the notice table (R9, R36) -/

/-- A time comes before another; an absent one comes last. -/
def sooner : Option Nat → Option Nat → Bool
  | some x, some y => x < y
  | some _, none => true
  | none, _ => false

/-- A record of slot `i` goes before one of slot `j`: by its time, and at equal times by its slot (R9). -/
def GoesFirst (x y : Option Nat) (i j : Nat) : Prop := sooner x y = true ∨ (sooner y x = false ∧ i ≤ j)

/-- The record that is evicted from a full table, passing over some keys: the tombstone of the earliest tombstone time, or
with no tombstone the IN_FORCE ADVISORY that expires first (R9, R36). -/
def Evicted (table : List (Option NoticeRecord)) (passed : List NoticeKey) (i : Nat) (e : NoticeRecord) : Prop :=
  (i, e) ∈ held table ∧ e.notice.key ∉ passed ∧
  ((e.notice.state ≠ .inForce ∧ ∀ x ∈ held table, x.2.notice.key ∉ passed → x.2.notice.state ≠ .inForce →
      GoesFirst e.tombstone x.2.tombstone i x.1) ∨
    ((∀ x ∈ held table, x.2.notice.key ∉ passed → x.2.notice.state = .inForce) ∧ e.notice.kind = .advisory ∧
      ∀ x ∈ held table, x.2.notice.key ∉ passed → x.2.notice.kind = .advisory →
        GoesFirst e.expiry x.2.expiry i x.1))

/-- The slot that a new record takes: the lowest free one, or in a full table that of the evicted record (R8, R9). -/
def Room (table : List (Option NoticeRecord)) (passed : List NoticeKey) (i : Nat) : Option NoticeRecord → Prop
  | none => table.findIdx? Option.isNone = some i
  | some e => none ∉ table ∧ Evicted table passed i e

/-- A full table from which nothing can be evicted (R9). -/
def NoRoom (table : List (Option NoticeRecord)) (passed : List NoticeKey) : Prop :=
  none ∉ table ∧ ∀ x ∈ held table, x.2.notice.key ∈ passed ∨
    (x.2.notice.state = .inForce ∧ x.2.notice.kind ≠ .advisory)

/-- The keys that an eviction takes from the table. -/
def evictedKeys : Option NoticeRecord → List NoticeKey
  | some e => [e.notice.key]
  | none => []

/-! ## The transmit queue and catch-up after a table change -/

/-- The unstarted frames without those for some keys (R18). -/
def without (keys : List NoticeKey) (w : List Frame) : List Frame :=
  w.filter fun f => !keys.any fun k => f.key = some k

/-- How many frames are started: one or none (R166). -/
def startedCount (l : Line) : Nat := if l.started.isSome then 1 else 0

/-- What a notice frame handed to the queue leaves of the unstarted frames: it rebuilds the frame of its key in place with the
larger budget, else stands behind the notice frames and before the bulletin while fewer than 12 frames are held, else takes the
bulletin's place, and is else refused (R15, R17, R167). -/
def Handed (started : Nat) (old new : List Frame) (k : NoticeKey) (g : Frame) (refused : Bool) : Prop :=
  if old.any (fun f => f.key = some k) = true then
    refused = false ∧
      new = old.map fun f => if f.key = some k then { f with content := g.content, hop := max f.hop g.hop } else f
  else if old.length + started < 12 then
    refused = false ∧ new = old.filter (fun f => !f.isBulletin) ++ g :: old.filter (fun f => f.isBulletin)
  else if old.any (fun f => f.isBulletin) = true then
    refused = false ∧ new = old.filter (fun f => !f.isBulletin) ++ [g]
  else refused = true ∧ new = old

/-- What becomes of the transmitter when frames for some keys are withdrawn and a frame may join: a frame being sent goes on,
with the withdrawal kept where it is for one of the keys; IDLE becomes WAIT_GAP with a count of 0 exactly where a frame now
waits; and WAIT_GAP becomes IDLE where none waits, counts from 0 where the head frame has changed, and counts on otherwise.
`again` says that the head counts as changed although it is a bulletin as the old one was (R18, R166, R168, R169). -/
def TxFollows (gone : List NoticeKey) (again : Bool) (old new : Line) : Prop :=
  (∀ x, old.tx = .sending x → new.tx = .sending { x with
    withdrawn := x.withdrawn || gone.any fun k => x.frame.key = some k }) ∧
  (old.tx = .idle → old.waiting = [] → new.tx = if new.waiting = [] then .idle else .waitGap 0) ∧
  (∀ q, old.tx = .waitGap q → old.waiting ≠ [] → new.tx =
    if new.waiting = [] then .idle
    else if again = true ∨ new.waiting.head?.map Frame.key ≠ old.waiting.head?.map Frame.key then .waitGap 0
    else .waitGap q)

/-- The line after the frames for some keys are withdrawn and a notice frame is handed to the queue: the unstarted frames and
the transmitter follow, and everything else of it stays (R15, R17, R18, R167 to R169). -/
def LineTakes (gone : List NoticeKey) (k : NoticeKey) (g : Frame) (refused : Bool) (old new : Line) : Prop :=
  Handed (startedCount old) (without gone old.waiting) new.waiting k g refused ∧ TxFollows gone false old new ∧
    { new with waiting := old.waiting, tx := old.tx } = old

/-- The keys that stay pending leave catch-up on, and with none left it ends and the next refresh tick comes one bulletin
period later (R26, R29). -/
def PendingNow (s t : State) (keys : List NoticeKey) (tick : Option Nat) : Prop :=
  if s.engine.catchUp = true ∧ keys = [] then
    t.engine.catchUp = false ∧ t.engine.pendingSet = [] ∧
      t.engine.tickAt = some (s.clock + s.cfg.bulletinPeriod * 1000000)
  else t.engine.catchUp = s.engine.catchUp ∧ t.engine.pendingSet = keys ∧ t.engine.tickAt = tick

/-- After a table change in which the records of some keys left, the keys that stay pending are those whose record is still
held and not EXPIRED (R29). -/
def CatchUpFollows (gone : List NoticeKey) (s t : State) : Prop :=
  PendingNow s t (s.engine.pendingSet.filter fun k => !gone.contains k &&
    t.engine.table.any fun r => r.any fun r => r.notice.key = k && r.notice.state != .expired) s.engine.tickAt

/-- The remaining minutes that a frame for a record carries (R14). -/
def minutesLeft (r : NoticeRecord) (minute : Nat) : Nat :=
  if r.notice.state = .inForce then
    match r.expiry with
    | some e => max 1 (e - minute)
    | none => 0
  else 0

/-- The notice frame built from a record (R13, R14, R166). -/
def frameFor (s : State) (r : NoticeRecord) (purpose : Purpose) (hop : Nat) : Frame :=
  ⟨.notice r.notice (minutesLeft r s.minute) purpose, hop, 0, s.cfg.station % 16⟩

/-- The number that an issue takes: the first at or after the next-number counter, wrapping from 255 to 0, that is not in use
(R22). -/
def FirstFree (used : List Nat) (counter n : Nat) : Prop :=
  n ∉ used ∧ ∃ j, n = (counter + j) % 256 ∧ ∀ m < j, (counter + m) % 256 ∈ used

/-- A notice is held IN_FORCE with this station as origin and a path's index as tag (R144). -/
def Tagged (s : State) (i : Nat) (n : Notice) : Prop :=
  n ∈ (s.engine.table.filterMap id).map (·.notice) ∧ n.state = .inForce ∧ n.origin = s.cfg.station ∧
    n.pathTag = some i

/-! ## The lowering test (R57, R59, R60) -/

/-- The pre-warning time of a gate has run since it entered WARNING (R59). -/
def PreWarned (s : State) (g : GateId) (c : GateCfg) : Prop :=
  ∃ u, (s.gates.get g).warnEntry = some u ∧ u + c.preWarning * 1000000 ≤ s.clock

/-- A panel is counted: an approach panel that can show the warning and is not in FAULT (R56, R57). -/
def Counts (s : State) (c : GateCfg) (p : Panel) : Prop :=
  c.approach.get p = true ∧ (s.descriptor c.descriptor).present = true ∧
    (s.descriptor c.descriptor).cfg.mask.get p = true ∧ (s.panels.get p).state ≠ .fault

/-- A panel has shown the GATE claim that its stack holds now for the pre-warning time (R57; log 21). -/
def Shown (s : State) (g : GateId) (c : GateCfg) (p : Panel) : Prop :=
  ∃ r u, (s.panels.get p).front.claim = some r ∧ r.id = .gate g ∧ (∃ x ∈ (s.displays.get p).claims, x.ref = r) ∧
    (s.panels.get p).leadShown = some u ∧ u + c.preWarning * 1000000 ≤ s.clock

/-- The panel part of the interlock is met (R57). -/
def PanelPart (s : State) (g : GateId) (c : GateCfg) : Prop :=
  (∃ p, Counts s c p) ∧ ∀ p, Counts s c p → Shown s g c p

/-- What the lowering test leaves of a gate in WARNING, with the beam as given: it lowers, its leg timed from now, where the
pre-warning time has run, the beam is clear, and the bypass mark is set or the panel part is met; otherwise it stays, with
SIGN_WAIT set exactly where the time has run with no panel counted and no bypass (R59, R60). -/
def LoweringTested (s : State) (g : GateId) (c : GateCfg) (beam : Bool) (y : Gate) : Prop :=
  ((PreWarned s g c ∧ beam = false ∧ ((s.gates.get g).bypass = true ∨ PanelPart s g c)) →
    y = { s.gates.get g with
      state := .lowering, lower := true, raise := false,
      flasher := (s.clock - (s.gates.get g).flashFrom) / 500000 % 2 == 0,
      motion := some s.clock, clear := none, warnEntry := none, signWait := false }) ∧
  (¬(PreWarned s g c ∧ beam = false ∧ ((s.gates.get g).bypass = true ∨ PanelPart s g c)) →
    ∃ b, y = { s.gates.get g with signWait := b } ∧
      (b = true ↔ PreWarned s g c ∧ (¬∃ p, Counts s c p) ∧ (s.gates.get g).bypass = false))

/-! ## What a gate does (R51 to R56, R61 to R71) -/

/-- The FLASHER output of a state: off in OPEN, steady in CLOSED, and otherwise half a second on and half a second off from the
start of its cycle (R51). -/
def flasherOf (st : GateState) (start now : Nat) : Bool :=
  if st = .opened then false else if st = .closed then true else (now - start) / 500000 % 2 == 0

/-- A gate with a state entered: the outputs of the state, the flasher cycle starting where a flashing state is entered from
OPEN or CLOSED; the WARNING entry time, SIGN_WAIT and both timers are off until the state's own entry sets them (R49, R51, R60,
R61). -/
def movedTo (x : Gate) (st : GateState) (now : Nat) : Gate :=
  let start := if (x.state = .opened ∨ x.state = .closed) ∧ st ≠ .opened ∧ st ≠ .closed then now else x.flashFrom
  { x with
    state := st, lower := decide (st = .lowering), raise := decide (st = .raising ∨ st = .retreat),
    flashFrom := start, flasher := flasherOf st start now,
    warnEntry := none, signWait := false, motion := none, clear := none }

/-- Some approach panel can show the warning of a gate (R56). -/
def canWarn (s : State) (c : GateCfg) : Bool :=
  [Panel.a, .b, .c].any fun p =>
    c.approach.get p && (s.descriptor c.descriptor).present && (s.descriptor c.descriptor).cfg.mask.get p

/-- What the entry into a state leaves of a gate. OPEN and CLOSED withdraw the claims and clear the bypass mark, OPEN only with
demand OPEN; WARNING starts a closing now, its retreat count 0, and holds claims where a panel can show them; LOWERING and
RETREAT begin a leg, and so does RAISING but from RETREAT, whose leg runs on; WAIT_CLEAR starts the beam clear timer where the
beam is clear; FAULT withdraws the claims and has its cause set by what leads to it (R54, R55, R56, R61 to R67, R70). -/
def entered (s : State) (g : GateId) (c : GateCfg) (x : Gate) (st : GateState) : Gate :=
  let y := movedTo x st s.clock
  match st with
  | .opened => { y with claims := false, cause := none, bypass := x.bypass && decide (x.demand = .closing) }
  | .warning => { y with retreats := 0, warnEntry := some s.clock, claims := canWarn s c }
  | .lowering => { y with motion := some s.clock }
  | .closed => { y with claims := false, cause := none, bypass := false }
  | .raising => { y with cause := none, motion := if x.state = .retreat then x.motion else some s.clock }
  | .retreat => { y with motion := some s.clock }
  | .waitClear => { y with clear := if s.beamBroken g then none else some s.clock }
  | .fault => { y with claims := false }

/-- What a gate asks of the other blocks as it enters a state: the withdrawal of the claims it holds on OPEN, CLOSED and FAULT,
their placing on WARNING, and its latch on FAULT (R56, R70). -/
def asked (s : State) (g : GateId) (c : GateCfg) (x : Gate) (st : GateState) : List Instr :=
  (if (st = .opened ∨ st = .closed ∨ st = .fault) ∧ x.claims = true then [.gateClaimRequest g .withdraw] else []) ++
  (if st = .warning ∧ canWarn s c = true then [.gateClaimRequest g .place] else []) ++
  (if st = .fault then [.latchSetRequest (.gateFault g)] else [])

/-- A gate enters a state, and asks what its entry asks. -/
def enters (s : State) (g : GateId) (c : GateCfg) (x : Gate) (st : GateState) : Gate × List Instr :=
  (entered s g c x st, asked s g c x st)

/-- A gate enters FAULT with a cause (R70). -/
def faults (s : State) (g : GateId) (c : GateCfg) (x : Gate) (cause : GateFault) : Gate × List Instr :=
  ({ entered s g c x .fault with cause := some cause }, asked s g c x .fault)

/-- A gate enters a state and goes straight on to another (R54, R71). -/
def entersThrough (s : State) (g : GateId) (c : GateCfg) (x : Gate) (st next : GateState) : Gate × List Instr :=
  (entered s g c (entered s g c x st) next, asked s g c x st ++ asked s g c (entered s g c x st) next)

/-- A gate enters OPEN, and with demand CLOSE goes straight on to WARNING (R54). -/
def opens (s : State) (g : GateId) (c : GateCfg) (x : Gate) : Gate × List Instr :=
  if x.demand = .opening then enters s g c x .opened else entersThrough s g c x .opened .warning

/-- The demand that the settle hold and the mode of a gate and the map entry of its guarded section give (R52). -/
def demandNow (s : State) (c : GateCfg) (x : Gate) : Demand :=
  if x.settleHold = true then .closing
  else match x.mode with
    | .heldOpen => .opening
    | .heldClosed => .closing
    | .auto =>
      if s.mapKind c.guarded = some .fullClosure ∨ (s.mapKind c.guarded = some .convoy ∧ c.onConvoy = true)
      then .closing else .opening

/-- A gate re-evaluates its demand and moves in the same change: to OPEN from WARNING and WAIT_CLEAR and to RAISING from
LOWERING, RETREAT and CLOSED on a new demand of OPEN, and to WARNING from OPEN on a new demand of CLOSE; in every other state a
new demand is recorded only, and the same demand changes nothing (R52 to R55, R62 to R67, R70). -/
def reacts (s : State) (g : GateId) (c : GateCfg) (x : Gate) : Gate × List Instr :=
  let d := demandNow s c x
  let y := { x with demand := d }
  if d = x.demand then (x, [])
  else if d = .opening then
    if x.state = .warning ∨ x.state = .waitClear then opens s g c y
    else if x.state = .lowering ∨ x.state = .retreat ∨ x.state = .closed then enters s g c y .raising
    else (y, [])
  else if x.state = .opened then enters s g c y .warning
  else (y, [])

/-! ## The passing of time (logs 1, 11 to 13) -/

/-- The line is busy: a character arrives on RXD, or the carrier input is active while nothing is being sent (R162). -/
def LineBusy (s : State) : Prop :=
  s.line.rxBusy ≠ 0 ∨ (s.inputLevel .lineCarrier = true ∧ s.line.started = none)

/-- What one microsecond leaves of the line: the character arriving and the one being sent run on, the count of WAIT_GAP and the
quiet time inside a frame run while the line is quiet and stand at 0 while it is busy, in millionths of a bit-time (R162, R164,
R169; log 13). -/
def LineRuns (s t : State) : Prop :=
  (∀ x, s.line.tx = .sending x → t.line.tx = .sending { x with sent := x.sent + s.cfg.lineRate }) ∧
  (s.line.tx = .idle → t.line.tx = .idle) ∧
  (∀ q, s.line.tx = .waitGap q →
    (LineBusy s → t.line.tx = .waitGap 0) ∧ (¬LineBusy s → t.line.tx = .waitGap (q + s.cfg.lineRate))) ∧
  t.line.rxBusy = s.line.rxBusy - s.cfg.lineRate ∧
  (LineBusy s → t.line.rxGap = 0) ∧
  (¬LineBusy s → t.line.rxGap = if s.line.rx.inFrame = true then s.line.rxGap + s.cfg.lineRate else s.line.rxGap) ∧
  { t.line with tx := s.line.tx, rxBusy := s.line.rxBusy, rxGap := s.line.rxGap } = s.line

/-- What one microsecond leaves of the port: the gap inside a request frame and the response run on (R181, R182; logs 19 and
43). -/
def PortRuns (s t : State) : Prop :=
  t.port = { s.port with state := match s.port.state with
    | .receiving got gap => .receiving got (gap + 1)
    | .responding frame left => .responding frame (left - s.port.rate)
    | .idle => .idle
    | .serving c => .serving c }

/-- What one microsecond leaves of a panel: a row slot that begins takes the brightness step as it stands, its row not yet
sampled (R105, R108). -/
def SlotRuns (now : Nat) (x y : PanelRec) : Prop :=
  (∀ u, x.frameAt = some u → (now - u) % 1000 = 0 → y = { x with slotStep := x.step, sampled := false }) ∧
  ((∀ u, x.frameAt = some u → (now - u) % 1000 ≠ 0) → y = x)

/-- An event of the station's own timers falls due in a state: its time has come, and what is timed still stands (R19, R20, R26,
R51, R57, R59, R61, R67, R89, R91, R102, R105, R107, R108, R115, R124, R131, R151, R157, R164, R169, R170, R174, R181, R182,
R189; log 11 for a first frame, a render and a sample). No other command falls due. -/
def FallsDue (t : State) : Instr → Prop
  | .noticeExpiry | .tombstonePurge | .weatherRuleEvaluation | .postEnd | .hazardComputation =>
    t.startUp = .running ∧ 0 < t.clock ∧ t.clock % 60000000 = 0
  | .hourlyAppend => t.startUp = .running ∧ 0 < t.clock ∧ t.clock % 3600000000 = 0 ∧
    ∀ x ∈ t.acq.ring, x.hour < t.clock / 3600000000
  | .settleEnd => t.startUp = .running ∧ t.settling = true ∧ 3 * (t.cfg.bulletinPeriod * 1000000) ≤ t.clock
  | .refreshTick => t.startUp = .running ∧ ∃ u, t.engine.tickAt = some u ∧ u ≤ t.clock
  | .bulletinTime => t.startUp = .running ∧ ∃ u, t.bulletin.nextAt = some u ∧ u ≤ t.clock
  | .periodBoundary i => t.startUp = .running ∧ i < 16 ∧ ∃ x : Peer, t.bulletin.peers[i]? = some (some x) ∧
    x.received + (x.missed + 1) * (t.cfg.bulletinPeriod * 1000000) ≤ t.clock
  | .preWarningExpiry g => t.startUp = .running ∧ ∃ c u, t.cfg.gates.get g = some c ∧ (t.gates.get g).state = .warning ∧
    (t.gates.get g).warnEntry = some u ∧ u + c.preWarning * 1000000 = t.clock
  | .shownDurationReached g p => t.startUp = .running ∧ ∃ c u, t.cfg.gates.get g = some c ∧
    (t.gates.get g).state = .warning ∧ Counts t c p ∧ Shown t g c p ∧ (t.panels.get p).leadShown = some u ∧
    u + c.preWarning * 1000000 = t.clock
  | .motionLimitExpiry g => t.startUp = .running ∧ ∃ c u, t.cfg.gates.get g = some c ∧
    (t.gates.get g).motion = some u ∧ u + c.motionLimit * 1000000 ≤ t.clock
  | .beamClearTimeExpiry g => t.startUp = .running ∧ ∃ c u, t.cfg.gates.get g = some c ∧
    (t.gates.get g).state = .waitClear ∧ (t.gates.get g).demand = .closing ∧ (t.gates.get g).clear = some u ∧
    u + c.beamClear * 1000000 ≤ t.clock
  | .flasherPhase g => t.startUp = .running ∧ (t.cfg.gates.get g).isSome = true ∧
    (t.gates.get g).flasher ≠ flasherOf (t.gates.get g).state (t.gates.get g).flashFrom t.clock
  | .renderComplete p => t.startUp = .running ∧ (t.cfg.panels.get p).isSome = true ∧
    ∃ u, (t.panels.get p).render = .running u ∧ u + 30000 ≤ t.clock
  | .flashPeriodExpiry p => t.startUp = .running ∧ ∃ c, t.cfg.panels.get p = some c ∧
    (t.panels.get p).state = .showing ∧ (t.panels.get p).front.flash = true ∧ (t.panels.get p).phaseDue = false ∧
    (t.panels.get p).phaseFrom + (if (t.panels.get p).phase = .shown then c.flashOn else c.flashOff) * 100000 ≤ t.clock
  | .frameStart p => t.startUp = .running ∧ ∃ c, t.cfg.panels.get p = some c ∧
    (match (t.panels.get p).frameAt with
      | some u => u
      | none => 0) + c.rows * 1000 ≤ t.clock
  | .lampCheckSample p => t.startUp = .running ∧ ∃ c u b, t.cfg.panels.get p = some c ∧
    (∃ i, t.inputOf (.panelSense p) = some i) ∧ (t.panels.get p).state = .showing ∧ (t.panels.get p).sampled = false ∧
    (t.panels.get p).frameAt = some u ∧ t.clock - u < c.rows * 1000 ∧ c.steps[(t.panels.get p).slotStep]? = some b ∧
    (t.clock - u) % 1000 + 1 = b.onTime
  | .scanStart => t.startUp = .running ∧ t.cfg.scanList ≠ [] ∧ ∃ u, t.acq.nextScan = some u ∧ u ≤ t.clock
  | .debounceExpiry i => t.startUp = .running ∧ i < 16 ∧ ∃ (x : Input) (u : Nat), t.inputs[i]? = some x ∧
    x.timer = some u ∧ u + x.cfg.debounce * 1000 ≤ t.clock
  | .transmitStart => t.startUp = .running ∧ ∃ q f rest, t.line.tx = .waitGap q ∧ t.line.waiting = f :: rest ∧
    ((if f.isBulletin = true then 48 else 12) + 3 * f.slot) * 1000000 ≤ q
  | .transmitCharacterEnd => t.startUp = .running ∧ ∃ x, t.line.tx = .sending x ∧ 10000000 ≤ x.sent
  | .receiveGapTimeout => t.startUp = .running ∧ t.line.rx.inFrame = true ∧ 40000000 < t.line.rxGap ∧
    t.line.started = none
  | .requestGapTimeout => t.startUp ≠ .resetHeld ∧ ∃ got gap, t.port.state = .receiving got gap ∧ 50000 < gap
  | .responseComplete => t.startUp ≠ .resetHeld ∧ ∃ frame, t.port.state = .responding frame 0
  | .reset | .loadingEntry | .loadingEnd .. | .noticeFrameTaken | .catchUp | .issue .. | .amend .. | .lift .. | .post ..
  | .clearPost .. | .holdOpen .. | .holdClosed .. | .release .. | .forceClose .. | .clearFault .. | .restart .. | .status
  | .readNoticeBySlot .. | .readNoticeByKey .. | .readSectionMapEntry .. | .readPeerEntry .. | .readLocalPath ..
  | .readRemotePath .. | .readRingRecord .. | .readSensorRole .. | .readDescriptor .. | .readPanel .. | .readGate ..
  | .readLatches | .readCounters | .clearLatches .. | .clearCounters | .unknownRequest | .servicePortCharacter ..
  | .demandReevaluation .. | .leadStateReport .. | .noticeClaim | .hazardClaim | .gateClaimRequest ..
  | .gateAheadClaim .. | .fieldReformat .. | .accessedMark .. | .renderTrigger .. | .brightnessEvaluation ..
  | .scanComplete .. | .slidePulse | .automaticIssue .. | .automaticLift .. | .noticeChangeReport ..
  | .effectiveLevelRecompute | .bulletinFrameTaken | .lineCharacterReceived .. | .terminalLevelChange ..
  | .latchSetRequest .. | .order .. | .lineBusy => False

/-- The order in which the events of one moment wait, which is the model's choice (log 12). -/
def dueOrder : List Instr :=
  [.noticeExpiry, .tombstonePurge, .weatherRuleEvaluation, .postEnd, .hazardComputation, .hourlyAppend, .settleEnd,
    .refreshTick, .bulletinTime] ++ (List.range 16).map .periodBoundary ++
  [GateId.g0, .g1].flatMap (fun g => [.preWarningExpiry g, .shownDurationReached g .a, .shownDurationReached g .b,
    .shownDurationReached g .c, .motionLimitExpiry g, .beamClearTimeExpiry g, .flasherPhase g]) ++
  [Panel.a, .b, .c].flatMap (fun p => [.renderComplete p, .flashPeriodExpiry p, .frameStart p, .lampCheckSample p]) ++
  [.scanStart] ++ (List.range 16).map .debounceExpiry ++
  [.transmitStart, .transmitCharacterEnd, .receiveGapTimeout, .requestGapTimeout, .responseComplete]

/-! ## What a scan tells (R106, R120, R121) -/

/-- What a completed scan tells: a latch request for each role that has become FAILED, in the role order; a reformat for each
panel whose lead has a field of a measurand that the scan has changed; and the filtered LIGHT value to each configured panel
where LIGHT is valid after the scan (R94, R106, R120, R121). -/
def scanTells (s t : State) : List Instr :=
  ([Role.roadTemp, .airTemp, .wind, .snowDepth, .light].filter fun r =>
    decide ((t.acq.roles.get r).validity = .failed ∧ (s.acq.roles.get r).validity ≠ .failed)).map
      (fun r => .latchSetRequest (.sensorInvalid r)) ++
  ([Panel.a, .b, .c].filter fun p =>
    match (s.displays.get p).claims with
    | [] => false
    | c :: _ =>
      match (s.descriptor c.descriptor).cfg.field with
      | some f => decide (t.measure f.measurand ≠ s.measure f.measurand)
      | none => false).map .fieldReformat ++
  (match t.acq.roles.light.validity, t.acq.roles.light.filtered with
    | .valid, some v => ([Panel.a, .b, .c].filter fun p => (s.cfg.panels.get p).isSome).map fun p => .brightnessEvaluation p v
    | _, _ => [])

/-! ## The ORDER body (13.2) -/

/-- How many characters follow an action code; an unknown code has none. -/
def fieldCount (code : Byte) : Option Nat :=
  if code.toNat = 1 then some 7 else if code.toNat = 2 then some 8 else if code.toNat = 3 then some 2
  else if code.toNat = 4 then some 5 else if 5 ≤ code.toNat ∧ code.toNat ≤ 10 then some 1
  else if code.toNat = 11 then some 0 else none

/-- The action of a code and its fields, the high character of a two-character field first and 255 for no message. -/
def actionOf : List Nat → Option OrderAction
  | [1, kind, cause, first, last, high, low, message] =>
    some (.issue kind cause first last (high * 256 + low) (if message = 255 then none else some message))
  | [2, origin, number, kind, first, last, high, low, message] =>
    some (.amend origin number kind first last (high * 256 + low) (if message = 255 then none else some message))
  | [3, origin, number] => some (.lift origin number)
  | [4, panel, descriptor, priority, high, low] => some (.post panel descriptor priority (high * 256 + low))
  | [5, panel] => some (.clearPost panel)
  | [6, gate] => some (.holdOpen gate)
  | [7, gate] => some (.holdClosed gate)
  | [8, gate] => some (.release gate)
  | [9, gate] => some (.forceClose gate)
  | [10, object] => some (.clearFault object)
  | [11] => some .restart
  | _ => none

/-- Some characters spell some actions, one after the other. -/
def Spells (xs : List Byte) (acts : List OrderAction) : Prop :=
  ∃ pieces : List (List Byte), xs = pieces.flatten ∧
    pieces.map (fun x => actionOf (x.map BitVec.toNat)) = acts.map some

/-! ## What a table change tells (R25, R31) -/

/-- The report to the Hazard Unit of a change to a record of this station that carries a path tag: nothing for any other (R25;
log 22 says whose tag counts where a copy changes it). -/
def changeTells (s : State) (before after : Option Notice) (cause : ChangeCause) : List Instr :=
  match after.or before with
  | none => []
  | some n =>
    match n.pathTag with
    | none => []
    | some tag =>
      if n.origin = s.cfg.station then
        [.noticeChangeReport ⟨tag, n.key, before.map (·.state), after.map fun n => (n.state, n.level), cause⟩]
      else []

/-- What every table change tells: the fitted gates where an entry of the section map has changed, and the Claim Unit (R31). -/
def mapTells (s t : State) : List Instr :=
  (if t.engine.map = s.engine.map then []
  else ([GateId.g0, .g1].filter fun g => (s.cfg.gates.get g).isSome).map .demandReevaluation) ++ [.noticeClaim]

/-! ## Bundles (R34 to R36) -/

/-- The notice that an action names (R35). -/
def noticeOf : OrderAction → Option NoticeKey
  | .amend origin number _ _ _ _ _ => some ⟨origin, number⟩
  | .lift origin number => some ⟨origin, number⟩
  | _ => none

/-- The panel that an action names, by its code; an object of CLEAR_FAULT from 16 on is a panel (R35, 13.2). -/
def panelOf : OrderAction → Option Nat
  | .post panel _ _ _ => some panel
  | .clearPost panel => some panel
  | .clearFault object => if 16 ≤ object then some (object - 16) else none
  | _ => none

/-- The gate that an action names, by its index (R35). -/
def gateOf : OrderAction → Option Nat
  | .holdOpen gate => some gate
  | .holdClosed gate => some gate
  | .release gate => some gate
  | .forceClose gate => some gate
  | .clearFault object => if 16 ≤ object then none else some object
  | _ => none

/-- Two actions of one bundle conflict (R35). -/
def Conflict (a b : OrderAction) : Prop :=
  (∃ k, noticeOf a = some k ∧ noticeOf b = some k) ∨ (∃ p, panelOf a = some p ∧ panelOf b = some p) ∨
  (∃ g, gateOf a = some g ∧ gateOf b = some g) ∨ a = .restart ∨ b = .restart

/-- An action is an ISSUE. -/
def isIssue : OrderAction → Bool
  | .issue _ _ _ _ _ _ => true
  | _ => false

/-- The room of a bundle: the free slots, and the tombstones and IN_FORCE ADVISORY records that it does not name (R36). -/
def roomFor (table : List (Option NoticeRecord)) (acts : List OrderAction) : Nat :=
  (table.filter fun r => r.all fun y =>
    (y.notice.state != .inForce || y.notice.kind == .advisory) &&
      !acts.any fun a => noticeOf a = some y.notice.key).length

/-- An action's own checks pass at the effective level `e`, in its bundle (R34, R36). -/
def checkOf (s : State) (e : Nat) (acts : List OrderAction) (i : Nat) (a : OrderAction) : Option Reason :=
  s.checkAction e (roomFor s.engine.table acts) ((acts.take (i + 1)).countP isIssue) a

/-- Action `i` of a bundle conflicts with an earlier one (R35). -/
def ConflictsBefore (acts : List OrderAction) (i : Nat) (a : OrderAction) : Prop :=
  ∃ j < i, ∃ b, acts[j]? = some b ∧ Conflict a b

/-- What the notice actions of a bundle work on, one after the other: the table, the next-number counter, the pending set and
the line, with the reports of the changes made so far (R25, R38). -/
structure NoticeSide where
  table   : List (Option NoticeRecord)
  next    : Nat
  pending : List NoticeKey
  line    : Line
  reports : List Instr

/-- What one action of a bundle leaves of these, with the keys that it assigns, at the effective level `e` and passing over the
notices that the bundle names. An ISSUE takes the lowest free slot or that of the record R9 evicts from the table as the actions
before it left it (logs 25 and 27); an AMEND and a LIFT rewrite their record in its slot; each hands its ORIGINATED frame to the
queue, a refusal marking the record, and reports the change; every other action leaves all of it (R9, R15, R17, R18, R21 to R25,
R29, R36, R38). -/
def NoticeStep (s : State) (e : Nat) (named : List NoticeKey) (x y : NoticeSide) (keys : List NoticeKey) :
    OrderAction → Prop
  | .issue kind cause first last remaining message =>
    ∃ i old k w n r refused, Room x.table named i old ∧ kindOf kind = some k ∧ causeOf cause = some w ∧
      FirstFree (numbersOf x.table s.cfg.station) x.next n ∧
      r = ⟨⟨s.cfg.station, n, 0, s.cfg.station, .inForce, k, w, e, first, last, message, none⟩,
        if remaining = 0 then none else some (s.minute + remaining), s.minute, s.cfg.issueBudget, s.minute, refused, none⟩ ∧
      LineTakes (evictedKeys old) ⟨s.cfg.station, n⟩ (frameFor s r .originated s.cfg.issueBudget) refused x.line y.line ∧
      y = ⟨x.table.set i (some r), (n + 1) % 256, x.pending.filter (fun p => p ∉ evictedKeys old), y.line,
        x.reports ++ changeTells s (old.map (·.notice)) none .eviction⟩ ∧
      keys = [⟨s.cfg.station, n⟩]
  | .amend origin number kind first last remaining message =>
    ∃ i r k r' refused, slotOf x.table ⟨origin, number⟩ = some i ∧ recordAt x.table i = some r ∧ kindOf kind = some k ∧
      r' = ⟨{ r.notice with
          version := r.notice.version + 1, amender := s.cfg.station, level := e, kind := k, firstSec := first,
          lastSec := last, message := message },
        if remaining = 0 then none else some (s.minute + remaining), s.minute, s.cfg.issueBudget, s.minute,
        r.early || refused, r.tombstone⟩ ∧
      LineTakes [] ⟨origin, number⟩ (frameFor s r' .originated s.cfg.issueBudget) refused x.line y.line ∧
      y = ⟨x.table.set i (some r'), x.next, x.pending, y.line,
        x.reports ++ changeTells s (some r.notice) (some r'.notice) .order⟩ ∧ keys = []
  | .lift origin number =>
    ∃ i r r' refused, slotOf x.table ⟨origin, number⟩ = some i ∧ recordAt x.table i = some r ∧
      r' = ⟨{ r.notice with version := r.notice.version + 1, amender := s.cfg.station, state := .lifted }, none, s.minute,
        s.cfg.issueBudget, s.minute, r.early || refused, some s.minute⟩ ∧
      LineTakes [] ⟨origin, number⟩ (frameFor s r' .originated s.cfg.issueBudget) refused x.line y.line ∧
      y = ⟨x.table.set i (some r'), x.next, x.pending, y.line,
        x.reports ++ changeTells s (some r.notice) (some r'.notice) .order⟩ ∧ keys = []
  | .post .. | .clearPost .. | .holdOpen .. | .holdClosed .. | .release .. | .forceClose .. | .clearFault .. | .restart =>
    y = x ∧ keys = []

/-- What the actions of a bundle leave, in action order, with the keys of its ISSUEs in that order (R38). -/
def NoticeSteps (s : State) (e : Nat) (named : List NoticeKey) :
    List OrderAction → NoticeSide → NoticeSide → List NoticeKey → Prop
  | [], x, y, keys => y = x ∧ keys = []
  | a :: rest, x, y, keys => ∃ z first more,
      NoticeStep s e named x z first a ∧ NoticeSteps s e named rest z y more ∧ keys = first ++ more

/-- The requests that need a loaded configuration (R183): all but STATUS and an unknown one. -/
def needsRunning : Instr → Bool
  | .order _ | .issue .. | .amend .. | .lift .. | .post .. | .clearPost .. | .holdOpen .. | .holdClosed .. | .release ..
  | .forceClose .. | .clearFault .. | .restart _ | .readNoticeBySlot _ | .readNoticeByKey .. | .readSectionMapEntry _
  | .readPeerEntry _ | .readLocalPath _ | .readRemotePath _ | .readRingRecord _ | .readSensorRole _ | .readDescriptor _
  | .readPanel _ | .readGate _ | .readLatches | .readCounters | .clearLatches .. | .clearCounters => true
  | _ => false

/-! ## Display stacks -/

/-- A stack holds the claim that a placement of this identity, descriptor and priority leaves: placed now, unless the stack
held a claim of the identity with the same descriptor and priority, which keeps its placement time (R82). -/
def Placed (now : Nat) (old new : List Claim) (id : ClaimId) (descriptor priority : Nat) : Prop :=
  ∃ c ∈ new, c.id = id ∧ c.descriptor = descriptor ∧ c.priority = priority ∧
    match old.find? (fun x => x.id = id) with
    | some o => if o.descriptor = descriptor ∧ o.priority = priority then c.placed = o.placed else c.placed = now
    | none => c.placed = now

/-- A stack holds no claim of an identity. -/
def Absent (new : List Claim) (id : ClaimId) : Prop := ∀ c ∈ new, c.id ≠ id

/-- What the Panel Driver of a panel is told between two states: nothing where the first claim is the same record, and otherwise
the new lead with its message text and flash flag, or that there is none (R83). -/
def leadTells (s t : State) (p : Panel) : List Instr :=
  let name := fun c : Claim => (c.id, c.descriptor, c.priority, c.placed)
  if (t.displays.get p).claims.head?.map name = (s.displays.get p).claims.head?.map name then []
  else [.renderTrigger p ((t.displays.get p).claims.head?.map fun c =>
    ⟨⟨c.id, c.descriptor, c.placed⟩, s.messageText c.descriptor, (s.descriptor c.descriptor).cfg.flash⟩)]

/-- The messages of a command that changes the stacks: after those of before, what the Panel Drivers are told, in panel order;
and the text last handed to each is that of its new lead, or stays where it is told nothing (R83, R94). -/
def LeadsTold (s t : State) (before : List Instr) : Prop :=
  t.told = before ++ [Panel.a, .b, .c].flatMap (leadTells s t) ∧
  ∀ p, (t.displays.get p).handed =
    if leadTells s t p = [] then (s.displays.get p).handed
    else (t.displays.get p).claims.head?.map fun c => s.messageText c.descriptor

/-- Two stacks hold the same claims in the same order but for claims of some identities. -/
def SameBut (ids : List ClaimId) (old new : List Claim) : Prop :=
  new.filter (fun c => !ids.contains c.id) = old.filter (fun c => !ids.contains c.id)

/-- The station is RUNNING and its port takes a request: it is IDLE, or it serves that request (R182; log 8). -/
def Serves (s : State) (c : Instr) : Prop :=
  s.startUp = .running ∧ (s.port.state = .idle ∨ s.port.state = .serving c)

/-! ## The pass line -/

/-- A station that hears some characters without error, one after the other, comes from one state to another (R164). -/
def Hears : List Byte → State → State → Prop
  | [], s, t => t = s
  | c :: rest, s, t => ∃ u, exec (.lineCharacterReceived c false) s = .next u ∧ Hears rest u t

/-! ## Message text and layout (R77, R100) -/

/-- The length of a descriptor's span in cells (R76). -/
def spanCells (d : DescriptorCfg) : Nat := if d.granularity = .cell then d.limit + 1 else (d.limit + 1) * 16

/-- Cell `i` of a descriptor's span: the field's text in the cells of the field, and the text store elsewhere (R77). -/
def spanCode (s : State) (d : DescriptorCfg) (i : Nat) : Byte :=
  match d.field with
  | some f =>
    if f.offset ≤ i ∧ i < f.offset + f.width then (s.fieldText f).getD (i - f.offset) 0x20#8
    else s.cfg.text.getD (d.base + i) 0x00#8
  | none => s.cfg.text.getD (d.base + i) 0x00#8

/-- The cells of a panel line that codes take: two for a pictogram and one for any other (R75, R100). -/
def cellsOf (codes : List Byte) : Nat := (codes.map fun c => if 0x80 ≤ c.toNat ∧ c.toNat ≤ 0x8B then 2 else 1).sum

/-- A line of a text stands in its place on a panel of `width` cells: a code that is neither printable nor a pictogram is a
space, codes are kept from the start of the line while their cells fit, and the left margin is half of what is left, rounded
down (R75, R100). -/
def LaidAt (width top : Nat) (line : List Byte) (y : PlacedLine) : Prop :=
  ∃ (codes : List Byte) (n : Nat),
    codes = line.map (fun c =>
      if (0x20 ≤ c.toNat ∧ c.toNat ≤ 0x7E) ∨ (0x80 ≤ c.toNat ∧ c.toNat ≤ 0x8B) then c else 0x20#8) ∧
    n ≤ codes.length ∧ cellsOf (codes.take n) ≤ width ∧ (n < codes.length → width < cellsOf (codes.take (n + 1))) ∧
    y = ⟨top, (width - cellsOf (codes.take n)) / 2, codes.take n⟩

/-! ## The checks of an image (R187) -/

/-- SECTION: eleven sections, each a two-byte length and a content of that many bytes, fill the bytes that the header's length
counts, all of them there, and each content is decoded in exactly its bytes. -/
def SectionsMet (m : Image) : Prop :=
  (m.body.take m.length).length = m.length ∧ ∃ contents : List (List Byte), contents.length = 11 ∧
    (∀ c ∈ contents, c.length ≤ 65535) ∧
    m.body.take m.length = contents.flatMap (fun c => byte (c.length / 256) :: byte c.length :: c) ∧
    m.used = contents.map List.length

/-- The station, line and port settings lie in the ranges that R13, R20, R115, R151, R162, R181 and the layouts give. -/
def SettingsMet (c : StationCfg) : Prop :=
  (1 ≤ c.station ∧ c.station ≤ 60) ∧ c.home ≤ 31 ∧ (1 ≤ c.issueBudget ∧ c.issueBudget ≤ 7) ∧ c.refreshBudget ≤ 7 ∧
  (10 ≤ c.tombstoneHold ∧ c.tombstoneHold ≤ 120) ∧ (10 ≤ c.bulletinPeriod ∧ c.bulletinPeriod ≤ 600) ∧
  (1 ≤ c.scanPeriod ∧ c.scanPeriod ≤ 10) ∧ c.lineRate ∈ [1200, 2400, 4800, 9600, 19200, 38400] ∧
  c.portRate ∈ [9600, 19200, 38400, 57600, 115200]

/-- There are no more entries than there may be of scan entries, paths, weather rules, cells, descriptors, inputs and enables
(R75, R76, R88, R113, R128, R129, R173, R176). -/
def CountsMet (c : StationCfg) : Prop :=
  c.scanList.length ≤ 12 ∧ c.paths.length ≤ 4 ∧ c.remotes.length ≤ 4 ∧ c.rules.length ≤ 8 ∧ c.text.length ≤ 2048 ∧
  c.descriptors.length ≤ 64 ∧ c.inputs.length ≤ 16 ∧ c.faultEnables.length ≤ 14

/-- A scan entry lies in the ranges of R113. -/
def EntryMet (e : ScanEntry) : Prop :=
  e.channel ≤ 11 ∧ e.sampling ≤ 255 ∧ e.offset ≤ 4095 ∧ (-32768 ≤ e.gain ∧ e.gain ≤ 32767) ∧
  (-32768 ≤ e.base ∧ e.base ≤ 32767) ∧ e.shift ≤ 4

/-- A local path lies in the ranges of R128. -/
def PathMet (c : PathCfg) : Prop :=
  c.number ≤ 63 ∧ c.wN ≤ 15 ∧ c.wW ≤ 15 ∧ c.wT ≤ 15 ∧ c.wA ≤ 15 ∧ (1 ≤ c.tW ∧ c.tW ≤ 1000) ∧
  (1 ≤ c.tR ∧ c.tR ≤ 1000) ∧ (1 ≤ c.tC ∧ c.tC ≤ 1000) ∧ c.band ≤ 200 ∧ c.hold ≤ 240 ∧ c.firstSec ≤ c.lastSec ∧
  c.lastSec ≤ 31 ∧ (∀ d, c.message = some d → d ≤ 31) ∧ c.warnDesc ≤ 63 ∧ c.closeDesc ≤ 63

/-- A weather rule lies in the ranges of R88. -/
def RuleMet (r : RuleCfg) : Prop :=
  (∀ v, v = r.setValue ∨ v = r.clearValue →
    match r.measurand with
    | .roadTemp => -500 ≤ v ∧ v ≤ 500
    | .airTemp => -500 ≤ v ∧ v ≤ 500
    | .wind => 0 ≤ v ∧ v ≤ 600
    | .newSnow => 0 ≤ v ∧ v ≤ 200) ∧
  r.descriptor ≤ 63 ∧ (1 ≤ r.priority ∧ r.priority ≤ 7)

/-- A panel lies in the ranges of R79 and R98; the flash periods are tenths of a second. -/
def PanelMet (c : PanelCfg) : Prop :=
  (c.rows = 8 ∨ c.rows = 16) ∧ (48 ≤ c.columns ∧ c.columns ≤ 96 ∧ c.columns % 6 = 0) ∧
  (2 ≤ c.flashOn ∧ c.flashOn ≤ 20) ∧ (2 ≤ c.flashOff ∧ c.flashOff ≤ 20) ∧ c.steps.length = 8 ∧
  (∀ b ∈ c.steps, 20 ≤ b.onTime ∧ b.onTime ≤ 1000 ∧ b.threshold ≤ 1023) ∧ c.band ≤ 255 ∧
  c.firstCover ≤ c.lastCover ∧ c.lastCover ≤ 31 ∧ (∀ k d, defaultOf c.defaults k = some d → d ≤ 63) ∧
  (∀ i, .ours i ∈ c.pathMask ∨ .remote i ∈ c.pathMask → i ≤ 3) ∧ (∀ i ∈ c.weatherMask, i ≤ 7) ∧
  (∀ a, c.gateAhead = some a → (1 ≤ a.station ∧ a.station ≤ 60) ∧ a.gate ≤ 1 ∧ a.descriptor ≤ 63)

/-- A gate lies in the ranges of R48. -/
def GateMet (c : GateCfg) : Prop :=
  c.guarded ≤ 31 ∧ (∃ p, c.approach.get p = true) ∧ c.descriptor ≤ 63 ∧ (30 ≤ c.preWarning ∧ c.preWarning ≤ 600) ∧
  (5 ≤ c.motionLimit ∧ c.motionLimit ≤ 120) ∧ (2 ≤ c.beamClear ∧ c.beamClear ≤ 60)

/-- RANGE: every field lies in the range its chapter gives, and every named value is a listed one (R48, R76, R79, R88, R96, R98,
R113, R128, R129, R173). -/
def RangeMet (m : Image) : Prop :=
  m.unlisted = 0 ∧ SettingsMet m.fields ∧ CountsMet m.fields ∧ (∀ e ∈ m.fields.scanList, EntryMet e) ∧
  (∀ c ∈ m.fields.paths, PathMet c) ∧
  (∀ c ∈ m.fields.remotes, c.number ≤ 63 ∧ c.warnDesc ≤ 63 ∧ c.closeDesc ≤ 63) ∧
  (∀ r ∈ m.fields.rules, RuleMet r) ∧
  (∀ d ∈ m.fields.descriptors, d.base ≤ 2047 ∧ d.limit ≤ 127 ∧ d.postLevel ≤ 3 ∧
    ∀ f, d.field = some f → 2 ≤ f.width ∧ f.width ≤ 5) ∧
  (∀ p c, m.fields.panels.get p = some c → PanelMet c) ∧ (∀ g c, m.fields.gates.get g = some c → GateMet c) ∧
  (∀ x ∈ m.fields.inputs, x.debounce ≤ 255)

/-- ORDER: path thresholds strictly ascend, the panel thresholds of steps 1 to 7 strictly ascend and step 0's is 0, and each
weather rule's clear value lies strictly on the far side of its set value (R88, R98, R128). -/
def OrderMet (m : Image) : Prop :=
  (∀ c ∈ m.fields.paths, c.tW < c.tR ∧ c.tR < c.tC) ∧
  (∀ p c, m.fields.panels.get p = some c →
    (∀ b, c.steps[0]? = some b → b.threshold = 0) ∧
    ∀ (i j : Nat) (b b' : BrightnessStep), 1 ≤ i → i < j → c.steps[i]? = some b → c.steps[j]? = some b' →
      b.threshold < b'.threshold) ∧
  (∀ r ∈ m.fields.rules, (r.sense = .atOrBelow → r.setValue < r.clearValue) ∧
    (r.sense = .atOrAbove → r.clearValue < r.setValue))

/-- UNIQUE: no scan role and no input role but UNUSED appears twice, and no two local paths, no two remote paths, and no remote
and local path share a path number (R113, R128, R129, R173). -/
def UniqueMet (m : Image) : Prop :=
  (∀ (i j : Nat) (x y : ScanEntry) (r : Role), m.fields.scanList[i]? = some x → m.fields.scanList[j]? = some y →
    x.role = some r → y.role = some r → i = j) ∧
  (∀ (i j : Nat) (x y : InputCfg), m.fields.inputs[i]? = some x → m.fields.inputs[j]? = some y → x.role = y.role →
    x.role ≠ .unused → i = j) ∧
  (∀ (i j : Nat) (x y : PathCfg), m.fields.paths[i]? = some x → m.fields.paths[j]? = some y → x.number = y.number →
    i = j) ∧
  (∀ (i j : Nat) (x y : RemoteCfg), m.fields.remotes[i]? = some x → m.fields.remotes[j]? = some y →
    x.number = y.number → i = j) ∧
  (∀ x ∈ m.fields.paths, ∀ y ∈ m.fields.remotes, x.number ≠ y.number)

/-- PANEL: each panel names only configured paths and rules, at most 4 of the ones and 3 of the others (R79). -/
def PanelsMet (m : Image) : Prop :=
  ∀ p c, m.fields.panels.get p = some c →
    (∀ i, .ours i ∈ c.pathMask → i < m.fields.paths.length) ∧
    (∀ i, .remote i ∈ c.pathMask → i < m.fields.remotes.length) ∧
    (∀ i ∈ c.weatherMask, i < m.fields.rules.length) ∧ c.pathMask.length ≤ 4 ∧ c.weatherMask.length ≤ 3

/-- GATE: each fitted gate has its three inputs, and all its approach panels are configured (R48). -/
def GatesMet (m : Image) : Prop :=
  ∀ g c, m.fields.gates.get g = some c →
    (∃ x ∈ m.fields.inputs, x.role = .gateUp g) ∧ (∃ x ∈ m.fields.inputs, x.role = .gateDown g) ∧
    (∃ x ∈ m.fields.inputs, x.role = .beam g) ∧
    ∀ p, c.approach.get p = true → (m.fields.panels.get p).isSome = true

/-- A state in which every promise of this file holds. -/
def Sound (s : State) : Prop :=
  MapCurrent s ∧ TableSound s ∧ AttentionFollows s ∧ GatesSound s ∧ DrivesApart s ∧ StacksSound s ∧ PanelsSound s ∧
  QueueSound s ∧ FramesHeld s ∧ InboxesSound s ∧ SensorsSound s ∧ PeersSound s ∧
  PathsSound s

/-- A safe step: it answers a next state in which every promise holds. -/
def SafeStep (s : State) : Prop := ∃ t, step s = .next t ∧ Sound t

end Sys2Proof.Safety

namespace Sys2Proof.Machine

/-- Every field of a bulletin lies in the range that R154 gives it. -/
def Bulletin.wellFormed (b : Bulletin) : Bool :=
  b.home ≤ 31 && b.paths.length ≤ 4 && b.gates.length ≤ 2 && (b.gates.map (·.gate)).Nodup && b.inForce ≤ 32 &&
  b.road.all (fun x => -500 ≤ x && x ≤ 500) && b.air.all (fun x => -500 ≤ x && x ≤ 500) &&
  b.wind.all (fun x => 0 ≤ x && x ≤ 600) && b.snow.all (fun x => 0 ≤ x && x ≤ 200) &&
  b.paths.all (fun r => r.number ≤ 63 && r.index ≤ 1000) && b.gates.all (fun r => r.guarded ≤ 31)

end Sys2Proof.Machine
end

