-- ==== Sys2Proof/WellFormed.lean ====
section
/-! DEFINITION. Which commands are well-formed: every operand lies in the range that the field carrying it can hold. A
request or an order action carries bytes and two-byte numbers (13.2), so a value out of its own range is well-formed and is
answered by the checks of its rule; an event names an item that the station has. -/

namespace Sys2Proof

/-- A number that one byte can hold. -/
def isByte (n : Nat) : Bool := n < 256

/-- A number that two bytes can hold. -/
def isWord (n : Nat) : Bool := n < 65536

/-- An optional one-byte field: 0xFF is absent, so a present value is below it (R190). -/
def isOptByte (m : Option Nat) : Bool := m.all (· < 255)

/-- A path index (R128). -/
def isPath (n : Nat) : Bool := n < 4

/-- The operands of a claim's name lie in range (R80). -/
def ClaimRef.wellFormed (r : ClaimRef) : Bool :=
  r.descriptor < 64 &&
  match r.id with
  | .hazard (.ours i) => isPath i
  | .hazard (.remote i) => isPath i
  | .weather i => i < 8
  | .notice => true
  | .operator => true
  | .gate _ => true
  | .gateAhead => true

/-- A change report names a path, a key and a level in range (R1, R25). -/
def ChangeReport.wellFormed (r : ChangeReport) : Bool :=
  isPath r.tag && 1 ≤ r.key.origin && r.key.origin ≤ 60 && isByte r.key.number && r.after.all fun x => x.2 < 4

/-- The fields of an order action lie in the range of the bytes that carry them (13.2). -/
def OrderAction.wellFormed : OrderAction → Bool
  | .issue kind cause first last remaining message =>
    isByte kind && isByte cause && isByte first && isByte last && isWord remaining && isOptByte message
  | .amend origin number kind first last remaining message =>
    isByte origin && isByte number && isByte kind && isByte first && isByte last && isWord remaining && isOptByte message
  | .lift origin number => isByte origin && isByte number
  | .post panel descriptor priority duration =>
    isByte panel && isByte descriptor && isByte priority && isWord duration
  | .clearPost panel => isByte panel
  | .holdOpen gate => isByte gate
  | .holdClosed gate => isByte gate
  | .release gate => isByte gate
  | .forceClose gate => isByte gate
  | .clearFault object => isByte object
  | .restart => true

/-- An image as LOADING reads it: eight header bytes, and eleven section contents (R187, 13.3). -/
def Image.wellFormed (m : Image) : Bool := m.header.length == 8 && m.used.length == 11

/-- Every operand of a command lies in the range of the field that carries it. -/
def Instr.wellFormed : Instr → Bool
  | .reset => true
  | .loadingEntry => true
  | .loadingEnd image => image.wellFormed
  | .settleEnd => true
  | .noticeFrameTaken => true
  | .noticeExpiry => true
  | .tombstonePurge => true
  | .refreshTick => true
  | .catchUp => true
  | .issue level kind cause first last remaining message =>
    isByte level && isByte kind && isByte cause && isByte first && isByte last && isWord remaining && isOptByte message
  | .amend level origin number kind first last remaining message =>
    isByte level && isByte origin && isByte number && isByte kind && isByte first && isByte last && isWord remaining &&
    isOptByte message
  | .lift level origin number => isByte level && isByte origin && isByte number
  | .post level panel descriptor priority duration =>
    isByte level && isByte panel && isByte descriptor && isByte priority && isWord duration
  | .clearPost level panel => isByte level && isByte panel
  | .holdOpen level gate => isByte level && isByte gate
  | .holdClosed level gate => isByte level && isByte gate
  | .release level gate => isByte level && isByte gate
  | .forceClose level gate => isByte level && isByte gate
  | .clearFault level object => isByte level && isByte object
  | .restart level => isByte level
  | .status => true
  | .readNoticeBySlot slot => isByte slot
  | .readNoticeByKey origin number => isByte origin && isByte number
  | .readSectionMapEntry sec => isByte sec
  | .readPeerEntry entry => isByte entry
  | .readLocalPath index => isByte index
  | .readRemotePath index => isByte index
  | .readRingRecord place => isByte place
  | .readSensorRole code => isByte code
  | .readDescriptor descriptor => isByte descriptor
  | .readPanel panel => isByte panel
  | .readGate gate => isByte gate
  | .readLatches => true
  | .readCounters => true
  | .clearLatches _ _ => true
  | .clearCounters => true
  | .unknownRequest => true
  | .servicePortCharacter _ _ _ => true
  | .requestGapTimeout => true
  | .responseComplete => true
  | .demandReevaluation _ => true
  | .preWarningExpiry _ => true
  | .shownDurationReached _ _ => true
  | .leadStateReport _ => true
  | .motionLimitExpiry _ => true
  | .beamClearTimeExpiry _ => true
  | .flasherPhase _ => true
  | .noticeClaim => true
  | .hazardClaim => true
  | .weatherRuleEvaluation => true
  | .postEnd => true
  | .gateClaimRequest _ _ => true
  | .gateAheadClaim sender => 1 ≤ sender && sender ≤ 60
  | .fieldReformat _ => true
  | .accessedMark descriptor => descriptor < 64
  | .renderTrigger _ lead => lead.all fun l => l.claim.wellFormed
  | .renderComplete _ => true
  | .frameStart _ => true
  | .flashPeriodExpiry _ => true
  | .lampCheckSample _ => true
  | .brightnessEvaluation _ light => 0 ≤ light && light ≤ 1023
  | .scanStart => true
  | .scanComplete raws => raws.length ≤ 12
  | .slidePulse => true
  | .hourlyAppend => true
  | .hazardComputation => true
  | .automaticIssue path => isPath path
  | .automaticLift path => isPath path
  | .noticeChangeReport r => r.wellFormed
  | .effectiveLevelRecompute => true
  | .bulletinTime => true
  | .bulletinFrameTaken => true
  | .periodBoundary entry => entry < 16
  | .lineCharacterReceived _ _ => true
  | .receiveGapTimeout => true
  | .transmitStart => true
  | .transmitCharacterEnd => true
  | .terminalLevelChange input _ => input < 16
  | .debounceExpiry input => input < 16
  | .latchSetRequest _ => true
  | .order body => body.length ≤ 119
  | .lineBusy => true

end Sys2Proof
end

