-- ==== Sys2Proof/Certificates/Slice0/Obligations.lean ====
section
/-! DEFINITION. The statements about the station: what each command leaves and what it leaves alone, and what every step
keeps. A statement about a command gives the next state it answers. `s.take c` is `s` with the message `c`, where it waits
among the station's own messages, taken (log 2); an equation that puts fields of `s` back into `t` and gives `s` says that
no other field has changed. -/

open Sys2Proof Sys2Proof.Machine Sys2Proof.Safety

/-! ## The step and the start -/

/-- A step with a command at the front of the queue is that command's effect on the state with the queue's rest. -/
def Obligations.StepTakesFrontCommand : Prop :=
  ∀ (c : Instr) (rest : List Instr) (s : State),
    step { s with pending := c :: rest } = exec c { s with pending := rest }

/-- The model's choice (logs 1 and 2): with no command waiting a step takes the oldest message of the station's own blocks, and
with neither one microsecond passes, in which only the clock, the line, the port and the row slots run, in LOADING and
UNCONFIGURED the port alone; in RESET_HELD the station idles. The line runs at its rate, the quiet counts only while it is quiet
(log 13), the port counts the gap or the response (logs 19 and 43), and a row slot that begins takes the brightness step.
Exactly the events that fall due at the new moment then wait, each once, in an order that is the model's (logs 11 and 12). -/
def Obligations.StepWithNoCommandWaiting : Prop :=
  (∀ (s : State) (c : Instr) (rest : List Instr), s.pending = [] → s.told = c :: rest → step s = exec c s) ∧
  (∀ s : State, s.pending = [] → s.told = [] → ∃ t, step s = .next t ∧
    t.clock = (if s.startUp = .running then s.clock + 1 else s.clock) ∧
    { t with told := s.told, clock := s.clock, line := s.line, port := s.port, panels := s.panels } = s ∧
    (s.startUp = .resetHeld → t = s) ∧ (s.startUp ≠ .resetHeld → PortRuns s t) ∧
    (s.startUp = .running → LineRuns s t ∧ ∀ p, SlotRuns t.clock (s.panels.get p) (t.panels.get p)) ∧
    (s.startUp ≠ .running → t.line = s.line ∧ t.panels = s.panels) ∧
    (∀ c, c ∈ t.told ↔ FallsDue t c) ∧ t.told.Sublist dueOrder)

/-- RESET leaves every block at its reset values, in RESET_HELD, and the reset state is such a state. The values that the
manual does not give are not named here (logs 6 and 7) (R3, R22, R26, R29, R30, R44, R72, R76, R84, R88, R99, R126, R130, R151,
R155, R160, R171, R172, R180, R181, R182, R186). -/
def Obligations.ResetLeavesResetValues : Prop :=
  exec .reset State.reset = .next State.reset ∧
  ∀ s : State, ∃ t, exec .reset s = .next t ∧ t.startUp = .resetHeld ∧ t.failure = none ∧
    t.engine = ⟨List.replicate 32 none, List.replicate 32 ⟨none, none⟩, 0, false, [], none⟩ ∧
    (∀ g, (t.gates.get g).lower = false ∧ (t.gates.get g).raise = false ∧ (t.gates.get g).flasher = false ∧
      (t.gates.get g).mode = .auto ∧ (t.gates.get g).holdLevel = none) ∧
    (∀ d ∈ t.store, d.accessed = false) ∧
    (∀ p, (t.displays.get p).claims = []) ∧ t.rules = List.replicate 8 false ∧
    (∀ p, (t.panels.get p).state = .dark ∧ (t.panels.get p).front = ⟨none, false, []⟩ ∧
      (t.panels.get p).back = ⟨none, false, []⟩ ∧ (t.panels.get p).render = .idle ∧
      (t.panels.get p).pendingLead = none ∧ (t.panels.get p).leadShown = none ∧ (t.panels.get p).phase = .shown ∧
      (t.panels.get p).step = 0 ∧ (t.panels.get p).misses = List.replicate 16 0 ∧ (t.panels.get p).cause = none ∧
      (t.panels.get p).faultRow = none) ∧
    (∀ r, t.acq.roles.get r = ⟨.notConfigured, none, none, 0, none⟩) ∧ (∀ v ∈ t.acq.spare, v = none) ∧
    t.acq.running = 0 ∧ t.acq.ring = [] ∧ t.acq.scan = none ∧ t.acq.nextScan = none ∧
    t.hazard.newSnow = 0 ∧
    (∀ x ∈ t.hazard.paths,
      x = ⟨0, 0, 0, 0, 0, 0, 0, 0, 0, .quiet, none, false, false, false, .none, none, .quiet⟩) ∧
    (∀ l ∈ t.hazard.remotes, l = .quiet) ∧
    t.bulletin = ⟨none, List.replicate 16 none, 0, 0⟩ ∧
    t.line.waiting = [] ∧ t.line.tx = .idle ∧ t.line.rx = .hunt false ∧ t.line.noticeInbox = [] ∧
    t.line.bulletinInbox = [] ∧ t.line.counters = ⟨0, 0, 0, 0, 0, 0, 0, 0, 0⟩ ∧
    (∀ x ∈ t.inputs, x.latch = false ∧ x.timer = none) ∧ t.faults = List.replicate 14 false ∧ t.attention = false ∧
    t.port.state = .idle ∧ t.port.overrun = 0 ∧ t.port.rate = 9600 ∧ t.port.parity = false

/-- LOADING_ENTRY leads from RESET_HELD to LOADING and changes nothing else. LOADING_END with an image of which a check fails
leads to UNCONFIGURED with that failure cause and ATTENTION asserted, and leaves the rest of the image unused; the checks are
made in their order, the first that fails giving the cause. MARKER, LENGTH and SUM are those of the header; SECTION, RANGE,
ORDER, UNIQUE, PANEL and GATE fail exactly where the sections do not fill the length, a field is out of the range its chapter
gives or a named value is not a listed one, thresholds or a clear value are out of order, a role or path number appears twice,
a panel names what is not configured or too much, and a fitted gate lacks an input or an approach panel. That the decoded
fields come with the command is the model's choice (log 4), as is that a list of the configuration may be short, what it
leaves out being neutral (log 16) (R13, R20, R48, R75, R76, R79, R88, R96, R98, R113, R115, R128, R129, R151, R162, R173,
R176, R177, R181, R186, R187, R190). -/
def Obligations.LoadingStartsAndFails : Prop :=
  (∀ s : State, s.startUp = .resetHeld → exec .loadingEntry s = .next { s with startUp := .loading }) ∧
  (∀ (s : State) (m : Image) (f : FailureCause), s.startUp = .loading → m.failure = some f →
    exec (.loadingEnd m) s = .next { s with startUp := .unconfigured, failure := some f, attention := true }) ∧
  (∀ m : Image, m.failure =
    if m.header.take 4 ≠ [0xA5#8, 0x3C#8, 0x69#8, 0x0E#8] then some .marker
    else if 16384 < m.length then some .length
    else if ((m.body.take m.length).map BitVec.toNat).sum % 65536 ≠ m.sum then some .sum
    else if m.sectionsGood = false then some .sections
    else if m.rangeGood = false then some .range
    else if m.orderGood = false then some .order
    else if m.uniqueGood = false then some .unique
    else if m.panelGood = false then some .panel
    else if m.gateGood = false then some .gate
    else none) ∧
  (∀ m : Image,
    m.length = (m.header.getD 4 0#8).toNat * 256 + (m.header.getD 5 0#8).toNat ∧
    m.sum = (m.header.getD 6 0#8).toNat * 256 + (m.header.getD 7 0#8).toNat ∧
    (m.sectionsGood = true ↔ SectionsMet m) ∧ (m.rangeGood = true ↔ RangeMet m) ∧
    (m.orderGood = true ↔ OrderMet m) ∧ (m.uniqueGood = true ↔ UniqueMet m) ∧
    (m.panelGood = true ↔ PanelsMet m) ∧ (m.gateGood = true ↔ GatesMet m))

/-- LOADING_END with an image that passes every check enters RUNNING: the clock starts from zero, the settle period begins,
each input's debounced level is its terminal level with no latch set, each role with a scan entry is UNMEASURED, the first scan,
refresh tick and bulletin time are set, a descriptor is present where its span check passes, the port takes its configured
setting, a frame being received discarded and a response being sent completed first, and each fitted gate takes the state of R72
from its limits in mode AUTO, one found in FAULT asking for its latch. That a list of the configuration may be short, what it
leaves out being neutral, is the model's choice (log 16) (R26, R72, R76, R115, R126, R151, R176, R180, R181, R187, R188). -/
def Obligations.RunningEntry : Prop :=
  ∀ (s : State) (m : Image), s.startUp = .loading → m.failure = none →
    ∃ t, exec (.loadingEnd m) s = .next t ∧ t.startUp = .running ∧ t.failure = none ∧ t.settling = true ∧ t.clock = 0 ∧
      t.cfg = m.fields ∧ t.engine = { s.engine with tickAt := some (m.fields.bulletinPeriod * 1000000) } ∧
      t.bulletin = { s.bulletin with
        nextAt := some (m.fields.bulletinPeriod * 1000 * (m.fields.station % 16) / 16 * 1000) } ∧
      (∀ (i : Nat) (x : Input), s.inputs[i]? = some x →
        t.inputs[i]? = some ⟨m.fields.inputs.getD i {}, x.terminal, x.terminal, none, false⟩) ∧
      (∀ r, t.acq.roles.get r =
        if m.fields.scanList.any (fun e => e.role = some r) then ⟨.unmeasured, none, none, 0, some 0⟩
        else ⟨.notConfigured, none, none, 0, none⟩) ∧
      t.acq = { s.acq with roles := t.acq.roles, nextScan := if m.fields.scanList = [] then none else some 0 } ∧
      (∀ (i : Nat) (d : DescriptorCfg), i < 64 → m.fields.descriptors[i]? = some d →
        ∃ x, t.store[i]? = some x ∧ x.cfg = d ∧ x.accessed = false ∧
          (x.present = true ↔ d.base + spanCells d ≤ 2048 ∧ ∀ f, d.field = some f → f.offset + f.width ≤ spanCells d)) ∧
      (∀ frame left, s.port.state = .responding frame left → t.port = s.port) ∧
      ((∀ frame left, s.port.state ≠ .responding frame left) → t.port = { s.port with
        state := match s.port.state with
          | .receiving _ _ => .idle
          | x => x
        rate := m.fields.portRate
        parity := m.fields.portParity }) ∧
      (∀ (g : GateId) (c : GateCfg), m.fields.gates.get g = some c →
        (t.gates.get g).mode = .auto ∧ (t.gates.get g).holdLevel = none ∧ (t.gates.get g).retreats = 0 ∧
        (t.gates.get g).bypass = false ∧ (t.gates.get g).signWait = false ∧ (t.gates.get g).motion = none ∧
        (t.gates.get g).clear = none ∧ (t.gates.get g).claims = false ∧
        (t.up g = true → t.down g = false → (t.gates.get g).state = .opened ∧ (t.gates.get g).demand = .opening ∧
          (t.gates.get g).settleHold = false) ∧
        (t.up g = false → t.down g = true → (t.gates.get g).state = .closed ∧ (t.gates.get g).demand = .closing ∧
          (t.gates.get g).settleHold = true) ∧
        (t.up g = false → t.down g = false → (t.gates.get g).state = .fault ∧
          (t.gates.get g).cause = some .positionUnknown ∧ (t.gates.get g).settleHold = false) ∧
        (t.up g = true → t.down g = true → (t.gates.get g).state = .fault ∧
          (t.gates.get g).cause = some .limitConflict ∧ (t.gates.get g).settleHold = false)) ∧
      t.told = s.told ++
        (([GateId.g0, .g1].filter fun g =>
          (m.fields.gates.get g).isSome && decide ((t.gates.get g).state = .fault)).map fun g => .latchSetRequest (.gateFault g)) ++
        (if m.fields.scanList = [] then [] else [.scanStart]) ++
        (if m.fields.bulletinPeriod * 1000 * (m.fields.station % 16) / 16 = 0 then [.bulletinTime] else []) ∧
      AttentionFollows t ∧ t.displays = s.displays ∧ t.panels = s.panels ∧ t.rules = s.rules ∧ t.hazard = s.hazard ∧
      t.line = s.line ∧ t.faults = s.faults ∧ t.pending = s.pending

/-- SETTLE_END, once three bulletin periods have run, ends settling and learns the next-number counter in one change; each
fitted gate clears its settle hold and takes the demand its mode and the section map give, moving its state with its outputs,
times, marks and claims in that same change where the demand is a new one (R22, R51 to R56, R62 to R67, R73, R188, R189). -/
def Obligations.SettleEnd : Prop :=
  ∀ s : State, s.startUp = .running → s.settling = true → 3 * s.periodUs ≤ s.clock →
    ∃ t, exec .settleEnd s = .next t ∧ t.settling = false ∧
      t.engine = { s.engine with
        nextNumber :=
          if numbersOf s.engine.table s.cfg.station = [] then 0
          else ((numbersOf s.engine.table s.cfg.station).foldl max 0 + 1) % 256 } ∧
      (∀ (g : GateId) (c : GateCfg), s.cfg.gates.get g = some c →
        (t.gates.get g).settleHold = false ∧ (t.gates.get g).mode = (s.gates.get g).mode ∧
        (t.gates.get g).demand =
          match (s.gates.get g).mode with
          | .heldOpen => .opening
          | .heldClosed => .closing
          | .auto =>
            if s.mapKind c.guarded = some .fullClosure ∨ (s.mapKind c.guarded = some .convoy ∧ c.onConvoy = true)
            then .closing else .opening) ∧
      (∀ (g : GateId) (c : GateCfg), s.cfg.gates.get g = some c →
        t.gates.get g = (reacts s g c { s.gates.get g with settleHold := false }).1) ∧
      t.told = (s.take .settleEnd).told ++ [GateId.g0, .g1].flatMap (fun g =>
        match s.cfg.gates.get g with
        | some c => (reacts s g c { s.gates.get g with settleHold := false }).2
        | none => []) ∧
      (∀ g, s.cfg.gates.get g = none → t.gates.get g = s.gates.get g) ∧
      { t with settling := s.settling, engine := s.engine, gates := s.gates, told := s.told } = s

/-! ## Notice frames -/

/-- Precedence between two copies of a notice: the higher version, then the stronger level, then the lower amender; all
equal, they are duplicates whatever else they hold (R4). -/
def Obligations.PrecedenceOfCopies : Prop :=
  ∀ a b : Notice,
    (precedence a b = .received ↔ b.version < a.version ∨
      (a.version = b.version ∧ (a.level < b.level ∨ (a.level = b.level ∧ a.amender < b.amender)))) ∧
    (precedence a b = .duplicate ↔ a.version = b.version ∧ a.level = b.level ∧ a.amender = b.amender) ∧
    (precedence a b = .held ↔ precedence b a = .received)

/-- NOTICE_FRAME_TAKEN with a good copy of a key that is not held: it is stored in the lowest free slot, or in a full table in
the slot of the record that R9 evicts, whose unstarted frame is withdrawn, a started one being marked so; the record holds the
copy with the local fields of R2, the map and the pending set follow, and with budget left a relay frame of the record with
one hop less is handed to the queue, a refusal marking the record. The transmitter follows the queue, the Hazard Unit is told
of an own tagged record that leaves or is stored, then the fitted gates where the section map has changed, and the Claim Unit,
and nothing else changes. With nothing to evict the copy is dropped, the table stays, and the latch NOTICE_TABLE_FULL is asked
for (R2, R3, R8, R9, R14, R15, R17, R18, R25, R29, R30, R31, R167, R168, R169). -/
def Obligations.NewCopyStored : Prop :=
  ∀ (s : State) (f : RxFrame) (rest : List RxFrame) (n : Notice) (remaining : Nat),
    s.startUp = .running → s.line.noticeInbox = f :: rest → decodeNotice f.body = some (n, remaining) →
    slotOf s.engine.table n.key = none →
    (∀ (i : Nat) (old : Option NoticeRecord), Room s.engine.table [] i old →
      ∃ t r refused, exec .noticeFrameTaken s = .next t ∧
        r = ⟨n, if n.state = .inForce ∧ remaining ≠ 0 then some (s.minute + remaining) else none, s.minute, f.hop, s.minute,
          refused, if n.state = .inForce then none else some s.minute⟩ ∧
        recordAt t.engine.table i = some r ∧ (∀ j, j ≠ i → t.engine.table[j]? = s.engine.table[j]?) ∧
        t.engine.map = sectionMap t.engine.table ∧ t.engine.nextNumber = s.engine.nextNumber ∧
        CatchUpFollows (evictedKeys old) s t ∧
        (f.hop = 0 → t.line.waiting = without (evictedKeys old) s.line.waiting ∧ refused = false) ∧
        (f.hop ≠ 0 → Handed (startedCount s.line) (without (evictedKeys old) s.line.waiting) t.line.waiting n.key
          (frameFor s r .relay (f.hop - 1)) refused) ∧
        TxFollows (evictedKeys old) false s.line t.line ∧
        { t.line with noticeInbox := s.line.noticeInbox, waiting := s.line.waiting, tx := s.line.tx } = s.line ∧
        t.told = (s.take .noticeFrameTaken).told ++ changeTells s (old.map (·.notice)) none .eviction ++
          changeTells s none (some n) .received ++ mapTells s t ∧
        t.line.noticeInbox = rest ∧ { t with engine := s.engine, line := s.line, told := s.told } = s) ∧
    (NoRoom s.engine.table [] → exec .noticeFrameTaken s = .next { s.take .noticeFrameTaken with
      line := { s.line with noticeInbox := rest }
      told := (s.take .noticeFrameTaken).told ++ [.latchSetRequest .noticeTableFull] })

/-- NOTICE_FRAME_TAKEN with a copy that has precedence over the held record: the record keeps its slot and its early-refresh
mark, and a record that was LIFTED already its tombstone time; every other field is the copy's, the map and the pending set
follow, and with budget left a relay frame of the record with one hop less is handed to the queue, a refusal marking the
record. The transmitter follows the queue, the Hazard Unit is told of an own tagged record, then the fitted gates where the
section map has changed, and the Claim Unit, and nothing else changes. Whose tag counts where the copy changes it is the model's
reading (log 22) (R10, R14, R15, R17, R25, R29, R31, R167, R169). -/
def Obligations.ReplacedCopy : Prop :=
  ∀ (s : State) (f : RxFrame) (rest : List RxFrame) (n : Notice) (remaining i : Nat) (r : NoticeRecord),
    s.startUp = .running → s.line.noticeInbox = f :: rest → decodeNotice f.body = some (n, remaining) →
    slotOf s.engine.table n.key = some i → recordAt s.engine.table i = some r → precedence n r.notice = .received →
    ∃ t r' refused, exec .noticeFrameTaken s = .next t ∧
      r' = ⟨n, if n.state = .inForce ∧ remaining ≠ 0 then some (s.minute + remaining) else none, s.minute, f.hop, s.minute,
        r.early || refused, if n.state = .inForce then none else if r.notice.state = .lifted then r.tombstone
          else some s.minute⟩ ∧
      recordAt t.engine.table i = some r' ∧ (∀ j, j ≠ i → t.engine.table[j]? = s.engine.table[j]?) ∧
      t.engine.map = sectionMap t.engine.table ∧ t.engine.nextNumber = s.engine.nextNumber ∧ CatchUpFollows [] s t ∧
      (f.hop = 0 → t.line.waiting = s.line.waiting ∧ refused = false) ∧
      (f.hop ≠ 0 → Handed (startedCount s.line) s.line.waiting t.line.waiting n.key (frameFor s r' .relay (f.hop - 1))
        refused) ∧
      TxFollows [] false s.line t.line ∧
      { t.line with noticeInbox := s.line.noticeInbox, waiting := s.line.waiting, tx := s.line.tx } = s.line ∧
      t.told = (s.take .noticeFrameTaken).told ++ changeTells s (some r.notice) (some n) .received ++ mapTells s t ∧
      t.line.noticeInbox = rest ∧ { t with engine := s.engine, line := s.line, told := s.told } = s

/-- NOTICE_FRAME_TAKEN with a duplicate: the time last heard becomes the current minute, the best hop budget the larger one, and
the queue is checked for relay suppression: an unstarted RELAY frame with a budget no larger is withdrawn and counted, the
transmitter following the queue; every other field of the record, the map and everything else stay, and no block is told
anything (R11, R16, R168, R169). -/
def Obligations.DuplicateCopy : Prop :=
  ∀ (s : State) (f : RxFrame) (rest : List RxFrame) (n : Notice) (remaining i : Nat) (r : NoticeRecord),
    s.startUp = .running → s.line.noticeInbox = f :: rest → decodeNotice f.body = some (n, remaining) →
    slotOf s.engine.table n.key = some i → recordAt s.engine.table i = some r →
    n.version = r.notice.version → n.level = r.notice.level → n.amender = r.notice.amender →
    ∃ t, exec .noticeFrameTaken s = .next t ∧
      t.engine = { s.engine with
        table := s.engine.table.set i (some { r with heard := s.minute, bestHop := max r.bestHop f.hop }) } ∧
      t.line.noticeInbox = rest ∧ { t.line with
        noticeInbox := s.line.noticeInbox, waiting := s.line.waiting, tx := s.line.tx,
        counters := s.line.counters } = s.line ∧
      (s.line.waiting.any (fun g => g.key = some r.notice.key && g.purpose = some .relay && decide (g.hop ≤ f.hop)) = true →
        t.line.waiting = s.line.waiting.filter (fun g => g.key ≠ some r.notice.key) ∧
        TxFollows [] false s.line t.line ∧
        t.line.counters = { s.line.counters with suppressed := min 65535 (s.line.counters.suppressed + 1) }) ∧
      (s.line.waiting.any (fun g => g.key = some r.notice.key && g.purpose = some .relay && decide (g.hop ≤ f.hop)) = false →
        t.line = { s.line with noticeInbox := rest }) ∧
      { t with engine := s.engine, line := s.line } = s.take .noticeFrameTaken

/-- NOTICE_FRAME_TAKEN with a stale copy: it is discarded, the counter of stale notices rises by one, the held record's
early-refresh mark is set unless the record is EXPIRED, and nothing else changes (R12). -/
def Obligations.StaleCopy : Prop :=
  ∀ (s : State) (f : RxFrame) (rest : List RxFrame) (n : Notice) (remaining i : Nat) (r : NoticeRecord),
    s.startUp = .running → s.line.noticeInbox = f :: rest → decodeNotice f.body = some (n, remaining) →
    slotOf s.engine.table n.key = some i → recordAt s.engine.table i = some r → precedence n r.notice = .held →
    exec .noticeFrameTaken s = .next { s.take .noticeFrameTaken with
      line := { s.line with
        noticeInbox := rest
        counters := { s.line.counters with stale := min 65535 (s.line.counters.stale + 1) } }
      engine := { s.engine with
        table := if r.notice.state = .expired then s.engine.table
          else s.engine.table.set i (some { r with early := true }) } }

/-- A malformed body leaves its inbox, is discarded and counted, and changes nothing else: for a notice frame the counter of
malformed notices, for a bulletin frame that of malformed bulletins. The bodies that are malformed are exactly those of which a
field, read where Chapter 13 lays it, is out of the range that R7 or R154 gives, and those of a wrong length
(R7, R154, R190). -/
def Obligations.MalformedBodies : Prop :=
  (∀ (s : State) (f : RxFrame) (rest : List RxFrame),
    s.startUp = .running → s.line.noticeInbox = f :: rest → decodeNotice f.body = none →
    exec .noticeFrameTaken s = .next { s.take .noticeFrameTaken with
      line := { s.line with
        noticeInbox := rest
        counters := { s.line.counters with malformed := min 65535 (s.line.counters.malformed + 1) } } }) ∧
  (∀ (s : State) (f : RxFrame) (rest : List RxFrame),
    s.startUp = .running → s.line.bulletinInbox = f :: rest →
    (decodeBulletin f.body = none ∨ f.sender = 0 ∨ 60 < f.sender) →
    exec .bulletinFrameTaken s = .next { s.take .bulletinFrameTaken with
      line := { s.line with bulletinInbox := rest }
      bulletin := { s.bulletin with malformed := min 65535 (s.bulletin.malformed + 1) } }) ∧
  (∀ body : List Byte, body.length ≠ 14 → decodeNotice body = none) ∧
  (∀ origin number version amender state kind cause level first last message tag high low : Byte,
    decodeNotice [origin, number, version, amender, state, kind, cause, level, first, last, message, tag, high, low] = none ↔
      origin.toNat < 1 ∨ 60 < origin.toNat ∨ amender.toNat < 1 ∨ 60 < amender.toNat ∨ 31 < first.toNat ∨
      31 < last.toNat ∨ last.toNat < first.toNat ∨ 4 < kind.toNat ∨ 4 < cause.toNat ∨ 1 < state.toNat ∨ 3 < level.toNat ∨
      (31 < message.toNat ∧ message.toNat ≠ 255) ∨ (3 < tag.toNat ∧ tag.toNat ≠ 255) ∨ 15 < version.toNat ∨
      10080 < high.toNat * 256 + low.toNat ∨ (state.toNat = 0 ∧ version.toNat = 15)) ∧
  (∀ body : List Byte, body.length < 10 → decodeBulletin body = none) ∧
  (∀ (home flags counts rh rl ah al wh wl snow : Byte) (reports : List Byte) (paths gates : Nat),
    paths = flags.toNat / 16 % 8 → gates = counts.toNat / 64 →
    (decodeBulletin (home :: flags :: counts :: rh :: rl :: ah :: al :: wh :: wl :: snow :: reports) = none ↔
      31 < home.toNat ∨ 4 < paths ∨ 2 < gates ∨ reports.length ≠ 4 * (paths + gates) ∨ 32 < counts.toNat % 64 ∨
      (∃ x ∈ [(rh, rl), (ah, al)], (x.1 ++ x.2 : Word16) ≠ 0x8000#16 ∧
        ((x.1 ++ x.2 : Word16).toInt < -500 ∨ 500 < (x.1 ++ x.2 : Word16).toInt)) ∨
      (wh.toNat * 256 + wl.toNat ≠ 65535 ∧ 600 < wh.toNat * 256 + wl.toNat) ∨
      (snow.toNat ≠ 255 ∧ 200 < snow.toNat) ∨
      (∃ i < paths, ∃ number level high low : Byte, (reports.drop (4 * i)).take 4 = [number, level, high, low] ∧
        (63 < number.toNat ∨ 3 < level.toNat ∨ 1000 < high.toNat * 256 + low.toNat)) ∨
      (∃ i < gates, ∃ gate guarded entry state : Byte,
        (reports.drop (4 * (paths + i))).take 4 = [gate, guarded, entry, state] ∧
        (1 < gate.toNat ∨ 31 < guarded.toNat ∨ 1 < entry.toNat ∨ 7 < state.toNat)) ∨
      (∃ i < gates, ∃ j < i, reports[4 * (paths + i)]? = reports[4 * (paths + j)]?)))

/-- NOTICE_EXPIRY at a minute boundary turns exactly the IN_FORCE records whose local expiry time has come into EXPIRED
records with the current minute as tombstone time, and TOMBSTONE_PURGE frees exactly the slots of the tombstones whose hold
has run; every other slot stays. The unstarted frames of those keys leave the queue, a started one is marked withdrawn, the
transmitter follows the queue, the keys leave the pending set, and a current section map is current afterwards. Where a record
has changed the Hazard Unit is told of each own tagged one in slot order, then the fitted gates where the map has changed, and
the Claim Unit (R18, R19, R20, R25, R29, R30, R31, R168, R169). -/
def Obligations.ExpiryAndPurge : Prop :=
  (∀ (s : State) (gone : List NoticeKey), s.startUp = .running → s.atMinute = true →
    gone = ((s.engine.table.filterMap id).filter fun r =>
      r.notice.state == .inForce && r.expiry.any (fun e => decide (e ≤ s.minute))).map (fun r => r.notice.key) →
    ∃ t, exec .noticeExpiry s = .next t ∧
      (∀ i, recordAt t.engine.table i = (recordAt s.engine.table i).map fun r =>
        if r.notice.state = .inForce ∧ r.expiry.any (· ≤ s.minute) = true then
          { r with notice := { r.notice with state := .expired }, tombstone := some s.minute }
        else r) ∧
      t.line.waiting = without gone s.line.waiting ∧ TxFollows gone false s.line t.line ∧
      (gone ≠ [] → CatchUpFollows [] s t ∧ t.told = (s.take .noticeExpiry).told ++
        (((s.engine.table.filterMap id).filter fun r =>
          r.notice.state == .inForce && r.expiry.any (fun e => decide (e ≤ s.minute))).flatMap fun r =>
            changeTells s (some r.notice) (some { r.notice with state := .expired }) .expiry) ++ mapTells s t) ∧
      (gone = [] → t = s.take .noticeExpiry) ∧
      t.engine.nextNumber = s.engine.nextNumber ∧
      (MapCurrent s → MapCurrent t) ∧ { t.line with waiting := s.line.waiting, tx := s.line.tx } = s.line ∧
      { t with engine := s.engine, line := s.line, told := s.told } = s) ∧
  (∀ (s : State) (gone : List NoticeKey), s.startUp = .running → s.atMinute = true →
    gone = ((s.engine.table.filterMap id).filter fun r =>
      r.notice.state != .inForce && r.tombstone.any fun x => decide (x + s.cfg.tombstoneHold ≤ s.minute)).map
        (fun r => r.notice.key) →
    ∃ t, exec .tombstonePurge s = .next t ∧
      (∀ i, recordAt t.engine.table i = (recordAt s.engine.table i).filter fun r =>
        !(r.notice.state != .inForce && r.tombstone.any fun x => decide (x + s.cfg.tombstoneHold ≤ s.minute))) ∧
      t.line.waiting = without gone s.line.waiting ∧ TxFollows gone false s.line t.line ∧
      (gone ≠ [] → CatchUpFollows gone s t ∧ t.told = (s.take .tombstonePurge).told ++
        (((s.engine.table.filterMap id).filter fun r =>
          r.notice.state != .inForce && r.tombstone.any fun x => decide (x + s.cfg.tombstoneHold ≤ s.minute)).flatMap fun r =>
            changeTells s (some r.notice) none .purge) ++ mapTells s t) ∧
      (gone = [] → t = s.take .tombstonePurge) ∧
      t.engine.nextNumber = s.engine.nextNumber ∧
      (MapCurrent s → MapCurrent t) ∧ { t.line with waiting := s.line.waiting, tx := s.line.tx } = s.line ∧
      { t with engine := s.engine, line := s.line, told := s.told } = s)

/-- REFRESH_TICK: the next tick is one bulletin period later, or 5 seconds in catch-up. With 9 or more frames queued, or no
record held IN_FORCE or LIFTED, nothing else comes about; otherwise there is one that the rotation chooses, the marked record
in the lowest slot, or with none marked the one of the earliest stamp, and it is handed to the queue as a REFRESH frame, the
transmitter following the queue, its stamp set and its mark cleared, and its key leaves the pending set; when no key stays
pending, catch-up ends and the next tick is one bulletin period from now. No block is told anything (R14, R26, R27, R29, R167,
R169). -/
def Obligations.RefreshTick : Prop :=
  ∀ (s : State) (u : Nat), s.startUp = .running → s.engine.tickAt = some u → u ≤ s.clock →
    ∃ t next, exec .refreshTick s = .next t ∧
      next = u + (if s.engine.catchUp = true then 5000000 else s.cfg.bulletinPeriod * 1000000) ∧
      t.engine.map = s.engine.map ∧ t.engine.nextNumber = s.engine.nextNumber ∧
      { t.line with waiting := s.line.waiting, tx := s.line.tx } = s.line ∧
      { t with engine := s.engine, line := s.line } = s.take .refreshTick ∧
      ((9 ≤ s.line.size ∨ ∀ r, some r ∈ s.engine.table → r.notice.state = .expired) →
        t.engine = { s.engine with tickAt := some next } ∧ t.line = s.line) ∧
      ((s.line.size < 9 ∧ ∃ r, some r ∈ s.engine.table ∧ r.notice.state ≠ .expired) →
        ∃ (i : Nat) (r : NoticeRecord), refreshChoice s.engine.table = some (i, r) ∧
        t.engine.table = s.engine.table.set i (some { r with stamp := s.minute, early := false }) ∧
        LineTakes [] r.notice.key (frameFor s r .refresh s.cfg.refreshBudget) false s.line t.line ∧
        PendingNow s t (s.engine.pendingSet.filter fun k => k ≠ r.notice.key) (some next) ∧
        r.notice.state ≠ .expired ∧ recordAt s.engine.table i = some r ∧
        ∀ (j : Nat) (x : NoticeRecord), recordAt s.engine.table j = some x → x.notice.state ≠ .expired →
          (x.early = true → r.early = true ∧ i ≤ j) ∧
          (r.early = false → r.stamp < x.stamp ∨ (r.stamp = x.stamp ∧ i ≤ j)))

/-- CATCH_UP while catch-up is clear: with an IN_FORCE or LIFTED record held it is set, the pending set holds the keys of all
of them and the next tick comes 5 seconds later; with none nothing changes. While it is set the keys replace the pending set and
the tick timing stays; with none held the pending set becomes empty, which ends catch-up (R26, R28, R29). -/
def Obligations.CatchUpSet : Prop :=
  ∀ (s : State) (ks : List NoticeKey), s.startUp = .running →
    ks = ((s.engine.table.filterMap id).filter fun r => r.notice.state != .expired).map (fun r => r.notice.key) →
    (s.engine.catchUp = false → ks ≠ [] → exec .catchUp s = .next { s.take .catchUp with
      engine := { s.engine with catchUp := true, pendingSet := ks, tickAt := some (s.clock + 5000000) } }) ∧
    (s.engine.catchUp = false → ks = [] → exec .catchUp s = .next (s.take .catchUp)) ∧
    (s.engine.catchUp = true → ks ≠ [] → exec .catchUp s = .next { s.take .catchUp with
      engine := { s.engine with pendingSet := ks } }) ∧
    (s.engine.catchUp = true → ks = [] → exec .catchUp s = .next { s.take .catchUp with
      engine := { s.engine with
        catchUp := false, pendingSet := [], tickAt := some (s.clock + s.cfg.bulletinPeriod * 1000000) } })

/-! ## Orders -/

/-- The key level is 3 while the debounce timer of a key input runs and otherwise the one of the two debounced key levels; the
effective level is the larger of it and the requested level; and the checks of a bundle as a whole come first, with action index
0. Then its actions are judged in order: the first that conflicts with an earlier one, or with no conflict fails a check of its
own, refuses the bundle at its index; with none the bundle passes. The k-th ISSUE is checked against the room of the bundle
(R32, R33, R34, R35, R36, R179). -/
def Obligations.EffectiveLevelOfBundle : Prop :=
  ∀ (s : State) (requested : Nat) (acts : List OrderAction),
    s.keyLevel =
      (if (s.inputOf .keyBit0).any (fun x => x.timer.isSome) || (s.inputOf .keyBit1).any (fun x => x.timer.isSome) then 3
      else (if s.inputLevel .keyBit1 then 0 else 2) + (if s.inputLevel .keyBit0 then 0 else 1)) ∧
    s.effective requested = max s.keyLevel requested ∧
    (3 < requested → s.judge requested acts = some (0, .badField)) ∧
    (requested ≤ 3 → (acts.length = 0 ∨ 3 < acts.length) → s.judge requested acts = some (0, .badField)) ∧
    (requested ≤ 3 → 1 ≤ acts.length → acts.length ≤ 3 → max s.keyLevel requested = 3 →
      s.judge requested acts = some (0, .noAuthority)) ∧
    (requested ≤ 3 → 1 ≤ acts.length → acts.length ≤ 3 → max s.keyLevel requested ≤ 2 →
      ∃ passes : Nat → Prop,
        (∀ i, passes i ↔ ∀ j < i, ∀ a, acts[j]? = some a →
          ¬ConflictsBefore acts j a ∧ checkOf s (max s.keyLevel requested) acts j a = none) ∧
        (s.judge requested acts = none ↔ passes acts.length) ∧
        ∀ (n : Nat) (r : Reason), s.judge requested acts = some (n, r) ↔
          ∃ i a, n = i + 1 ∧ acts[i]? = some a ∧ passes i ∧
            ((ConflictsBefore acts i a ∧ r = .conflict) ∨
              (¬ConflictsBefore acts i a ∧ checkOf s (max s.keyLevel requested) acts i a = some r)))

/-- ORDER with a body that does not decode, or with a bundle of which a check fails, is answered REFUSED with the action index
and the reason, and leaves the station's state exactly as it was (R33, R34, R37). A body decodes exactly where it is a level, an
action count and that many whole actions of 13.2; an unknown code, every action before it whole, is refused at its own index,
and a body that ends early or goes on at index 0; that an unknown code after the third action is refused at its own index too is
the model's choice (log 28). The checks of each action are those of its rule, in its order, the first that fails giving the
reason. That a request acts with the port IDLE, and that a response begins at once and runs without idle time, are the model's
choices (logs 8 and 43) (R36, R39 to R47). -/
def Obligations.RefusedBundleChangesNothing : Prop :=
  (∀ (s : State) (body : List Byte), Serves s (.order body) →
    (∀ i, decodeOrder body = .error i →
      exec (.order body) s = .next ((s.take (.order body)).respond .refused [byte i, 2#8])) ∧
    (∀ (requested : Nat) (acts : List OrderAction) (i : Nat) (r : Reason), decodeOrder body = .ok (requested, acts) →
      s.judge requested acts = some (i, r) →
      exec (.order body) s = .next ((s.take (.order body)).respond .refused [byte i, byte r.code]))) ∧
  (decodeOrder [] = .error 0 ∧ ∀ level : Byte, decodeOrder [level] = .error 0) ∧
  (∀ (level count : Byte) (xs rest : List Byte) (acts : List OrderAction), Spells xs acts →
    (acts.length = count.toNat → rest = [] → decodeOrder (level :: count :: xs ++ rest) = .ok (level.toNat, acts)) ∧
    (acts.length = count.toNat → rest ≠ [] → decodeOrder (level :: count :: xs ++ rest) = .error 0) ∧
    (acts.length < count.toNat → rest = [] → decodeOrder (level :: count :: xs ++ rest) = .error 0) ∧
    (∀ (code : Byte) (fields : List Byte), acts.length < count.toNat → rest = code :: fields →
      (fieldCount code = none → decodeOrder (level :: count :: xs ++ rest) = .error (acts.length + 1)) ∧
      ∀ n, fieldCount code = some n → fields.length < n → decodeOrder (level :: count :: xs ++ rest) = .error 0)) ∧
  (∀ (s : State) (e room k : Nat),
    (∀ kind cause first last remaining message,
      s.checkAction e room k (.issue kind cause first last remaining message) =
        if s.settling = true then some .settling
        else if 4 < kind ∨ 4 < cause ∨ 31 < first ∨ 31 < last ∨ last < first ∨ 10080 < remaining ∨
          message.any (fun d => decide (31 < d)) = true then some .badField
        else if message.any (fun d => !(s.descriptor d).present) = true then some .notPresent
        else if message.any (fun d => decide ((s.descriptor d).cfg.postLevel < e)) = true then some .level
        else if room < k then some .tableFull
        else none) ∧
    (∀ origin number kind first last remaining message,
      s.checkAction e room k (.amend origin number kind first last remaining message) =
        if origin < 1 ∨ 60 < origin ∨ 255 < number then some .badField
        else match (s.engine.table.filterMap id).find? fun r => r.notice.key = ⟨origin, number⟩ with
          | none => some .notFound
          | some r =>
            if r.notice.state ≠ .inForce then some .notInForce
            else if r.notice.level < e then some .level
            else if 13 < r.notice.version then some .versionLimit
            else if 4 < kind ∨ 31 < first ∨ 31 < last ∨ last < first ∨ 10080 < remaining ∨
              message.any (fun d => decide (31 < d)) = true then some .badField
            else if message.any (fun d => !(s.descriptor d).present) = true then some .notPresent
            else if message.any (fun d => decide ((s.descriptor d).cfg.postLevel < e)) = true then some .level
            else none) ∧
    (∀ origin number, s.checkAction e room k (.lift origin number) =
      if origin < 1 ∨ 60 < origin ∨ 255 < number then some .badField
      else match (s.engine.table.filterMap id).find? fun r => r.notice.key = ⟨origin, number⟩ with
        | none => some .notFound
        | some r =>
          if r.notice.state ≠ .inForce then some .notInForce
          else if r.notice.level < e then some .level
          else none) ∧
    (∀ panel descriptor priority duration, s.checkAction e room k (.post panel descriptor priority duration) =
      match Panel.ofCode panel with
      | none => some .badField
      | some p =>
        if 63 < descriptor ∨ 15 < priority ∨ 1440 < duration then some .badField
        else if (s.cfg.panels.get p).isNone = true then some .notFitted
        else if (s.descriptor descriptor).present = false then some .notPresent
        else if (s.descriptor descriptor).cfg.mask.get p = false then some .notAllowed
        else if (s.descriptor descriptor).cfg.postLevel < e then some .level
        else if (if e = 0 then 15 else if e = 1 then 13 else 11) < priority then some .priority
        else match (s.displays.get p).claims.find? fun c => c.id = .operator with
          | none => none
          | some c => if c.level.any (fun l => decide (l < e)) = true then some .level else none) ∧
    (∀ panel, s.checkAction e room k (.clearPost panel) =
      match Panel.ofCode panel with
      | none => some .badField
      | some p =>
        if (s.cfg.panels.get p).isNone = true then some .notFitted
        else match (s.displays.get p).claims.find? fun c => c.id = .operator with
          | none => some .notFound
          | some c => if c.level.any (fun l => decide (l < e)) = true then some .level else none) ∧
    (∀ (a : OrderAction) (gate weakest : Nat),
      (a = .holdOpen gate ∧ weakest = 1 ∨ a = .holdClosed gate ∧ weakest = 2 ∨ a = .release gate ∧ weakest = 2) →
      s.checkAction e room k a =
        match GateId.ofCode gate with
        | none => some .badField
        | some g =>
          if (s.cfg.gates.get g).isNone = true then some .notFitted
          else if weakest < e then some .level
          else if (s.gates.get g).mode ≠ .auto ∧ (s.gates.get g).holdLevel.any (fun l => decide (l < e)) = true then
            some .level
          else none) ∧
    (∀ gate, s.checkAction e room k (.forceClose gate) =
      match GateId.ofCode gate with
      | none => some .badField
      | some g => if (s.cfg.gates.get g).isNone = true then some .notFitted else if e ≠ 0 then some .level else none) ∧
    (∀ object, s.checkAction e room k (.clearFault object) =
      if object < 16 then
        match GateId.ofCode object with
        | none => some .badField
        | some g =>
          if (s.cfg.gates.get g).isNone = true then some .notFitted
          else if (s.gates.get g).state ≠ .fault then some .notFaulted
          else none
      else
        match Panel.ofCode (object - 16) with
        | none => some .badField
        | some p =>
          if (s.cfg.panels.get p).isNone = true then some .notFitted
          else if (s.panels.get p).state ≠ .fault then some .notFaulted
          else none) ∧
    s.checkAction e room k .restart = if e ≠ 0 then some .level else none)

/-- A single ISSUE, as its own row or as the one action of an ORDER, whose checks pass: the notice is stored as R21 gives it
in the lowest free slot or that of the record R9 evicts, with the first number at or after the counter that no own record
uses; the counter, the map, the pending set, the frame, the transmitter and the response follow, an own tagged record evicted
is reported, then the fitted gates are told where the map has changed, and the Claim Unit, and nothing else changes. With no
room it is refused TABLE_FULL. An ORDER whose bundle passes its checks is applied whole: its notice actions change the table,
the counter, the pending set and the queue one after the other in action order, each ISSUE in the slot that is free or made
free as the table then stands, full or not, the slots that no action names and no ISSUE takes staying; each other action
leaves its claim with the lead told, its mode with the gate's move, or its recovery, that of a gate by its limits and the demand
of the new map (R71), and what no action names stays; the map
is recomputed once and told after the reports of the notice actions, and the response lists one key of this station for each
ISSUE. That an ISSUE may evict the record of an earlier one, that an evicted own record counts as using its number, and that a
recovering panel's back image is blank while it renders are the model's (logs 25, 27 and 29), as is that a request acts with
the port IDLE and is answered at once (logs 8 and 43) (R2, R9, R14, R15, R17, R18, R21 to R25, R29, R31, R36, R38 to R47, R52
to R56, R71, R83, R167 to R169). -/
def Obligations.IssueStoresNotice : Prop :=
  (∀ (s : State) (c : Instr) (level kind cause first last remaining : Nat) (message : Option Nat) (k : NoticeKind)
    (w : Cause),
    (c = .issue level kind cause first last remaining message ∨
      ∃ body, c = .order body ∧ decodeOrder body = .ok (level, [.issue kind cause first last remaining message])) →
    Serves s c → TableSound s → s.settling = false → level ≤ 3 → max s.keyLevel level ≤ 2 → kindOf kind = some k →
    causeOf cause = some w → first ≤ last → last ≤ 31 → remaining ≤ 10080 →
    (∀ d, message = some d → d ≤ 31 ∧ (s.descriptor d).present = true ∧
      max s.keyLevel level ≤ (s.descriptor d).cfg.postLevel) →
    (∀ (i : Nat) (old : Option NoticeRecord), Room s.engine.table [] i old →
      ∃ t r n refused, exec c s = .next t ∧
        r = ⟨⟨s.cfg.station, n, 0, s.cfg.station, .inForce, k, w, max s.keyLevel level, first, last, message, none⟩,
          if remaining = 0 then none else some (s.minute + remaining), s.minute, s.cfg.issueBudget, s.minute, refused,
          none⟩ ∧
        recordAt t.engine.table i = some r ∧ (∀ m, m ≠ i → t.engine.table[m]? = s.engine.table[m]?) ∧
        FirstFree (numbersOf s.engine.table s.cfg.station) s.engine.nextNumber n ∧
        t.engine.nextNumber = (n + 1) % 256 ∧ t.engine.map = sectionMap t.engine.table ∧
        CatchUpFollows (evictedKeys old) s t ∧
        LineTakes (evictedKeys old) ⟨s.cfg.station, n⟩ (frameFor s r .originated s.cfg.issueBudget) refused s.line t.line ∧
        t.port = (s.respond .ok [byte s.cfg.station, byte n]).port ∧
        t.told = (s.take c).told ++ changeTells s (old.map (·.notice)) none .eviction ++ mapTells s t ∧
        { t with engine := s.engine, line := s.line, told := s.told, port := s.port } = s) ∧
    (NoRoom s.engine.table [] → exec c s = .next ((s.take c).respond .refused [1#8, byte Reason.tableFull.code]))) ∧
  (∀ (s : State) (body : List Byte) (requested e : Nat) (acts : List OrderAction),
    Serves s (.order body) → decodeOrder body = .ok (requested, acts) → s.judge requested acts = none → TableSound s →
    e = max s.keyLevel requested →
    ∃ (t : State) (keys left : List NoticeKey) (reports others : List Instr), exec (.order body) s = .next t ∧
      keys.length = acts.countP isIssue ∧
      (∀ k ∈ keys, k.origin = s.cfg.station) ∧
      NoticeSteps s e (acts.filterMap noticeOf) acts
        ⟨s.engine.table, s.engine.nextNumber, s.engine.pendingSet, s.line, []⟩
        ⟨t.engine.table, t.engine.nextNumber, left, t.line, reports⟩ keys ∧
      t.told = (s.take (.order body)).told ++ reports ++
        (if (∃ a ∈ acts, isIssue a = true ∨ (noticeOf a).isSome = true) then mapTells s t else []) ++ others ∧
      (∀ p, ∀ m ∈ leadTells s t p, m ∈ others) ∧
      (∀ m ∈ others, (∃ p, m ∈ leadTells s t p) ∨ (∃ g ask, m = .gateClaimRequest g ask) ∨ ∃ p, m = .leadStateReport p) ∧
      (∀ j : Nat, t.engine.table[j]? = s.engine.table[j]? ∨
        (∃ r, recordAt t.engine.table j = some r ∧ r.notice.key ∈ keys) ∨
        ∃ a ∈ acts, ∃ r, recordAt s.engine.table j = some r ∧ noticeOf a = some r.notice.key) ∧
      (acts ≠ [.restart] → t.port = (s.respond .ok (keys.flatMap fun k => [byte k.origin, byte k.number])).port) ∧
      (∀ (i kind cause first last remaining : Nat) (message : Option Nat),
        (acts.filter isIssue)[i]? = some (OrderAction.issue kind cause first last remaining message) →
        keys.length ≤ s.engine.table.count none →
        ∃ (j : Nat) (r : NoticeRecord) (k : NoticeKind) (w : Cause), keys[i]? = some r.notice.key ∧
          recordAt t.engine.table j = some r ∧ kindOf kind = some k ∧ causeOf cause = some w ∧
          r.notice = ⟨s.cfg.station, r.notice.number, 0, s.cfg.station, .inForce, k, w, e, first, last, message, none⟩) ∧
      (∀ origin number kind first last remaining message,
        OrderAction.amend origin number kind first last remaining message ∈ acts →
        ∃ j r r' k, recordAt s.engine.table j = some r ∧ r.notice.key = ⟨origin, number⟩ ∧ kindOf kind = some k ∧
          recordAt t.engine.table j = some r' ∧
          r'.notice = { r.notice with
            version := r.notice.version + 1, amender := s.cfg.station, level := e, kind := k, firstSec := first,
            lastSec := last, message := message }) ∧
      (∀ origin number, OrderAction.lift origin number ∈ acts →
        ∃ j r r', recordAt s.engine.table j = some r ∧ r.notice.key = ⟨origin, number⟩ ∧
          recordAt t.engine.table j = some r' ∧ r'.tombstone = some s.minute ∧
          r'.notice = { r.notice with
            version := r.notice.version + 1, amender := s.cfg.station, state := .lifted }) ∧
      ((∃ a ∈ acts, isIssue a = true ∨ (noticeOf a).isSome = true) →
        t.engine.map = sectionMap t.engine.table ∧
        PendingNow s t (left.filter fun k => t.engine.table.any fun r => r.any fun r =>
          r.notice.key = k && r.notice.state != .expired) s.engine.tickAt) ∧
      ((∀ a ∈ acts, isIssue a = false ∧ noticeOf a = none) → t.engine = s.engine ∧ t.line = s.line) ∧
      (∀ panel descriptor priority duration p, OrderAction.post panel descriptor priority duration ∈ acts →
        Panel.ofCode panel = some p →
        Placed s.clock (s.displays.get p).claims (t.displays.get p).claims .operator descriptor priority ∧
        (∃ x ∈ (t.displays.get p).claims, x.id = .operator ∧ x.level = some e ∧
          x.endTime = (if duration = 0 then none else some (s.minute + duration))) ∧
        SameBut [.operator] (s.displays.get p).claims (t.displays.get p).claims) ∧
      (∀ panel p, OrderAction.clearPost panel ∈ acts → Panel.ofCode panel = some p →
        (t.displays.get p).claims = (s.displays.get p).claims.filter fun x => x.id ≠ .operator) ∧
      (∀ p, (∀ a ∈ acts, (∀ panel descriptor priority duration, a = .post panel descriptor priority duration →
          Panel.ofCode panel ≠ some p) ∧ ∀ panel, a = .clearPost panel → Panel.ofCode panel ≠ some p) →
        t.displays.get p = s.displays.get p) ∧
      (∀ (a : OrderAction) (gate : Nat) (g : GateId) (c : GateCfg) (mode : GateMode) (hold : Option Nat), a ∈ acts →
        (a = .holdOpen gate ∧ mode = .heldOpen ∧ hold = some e ∨
          a = .holdClosed gate ∧ mode = .heldClosed ∧ hold = some e ∨ a = .release gate ∧ mode = .auto ∧ hold = none ∨
          a = .forceClose gate ∧ mode = .heldClosed ∧ hold = some 0) →
        GateId.ofCode gate = some g → s.cfg.gates.get g = some c →
        (t.gates.get g).mode = mode ∧ (t.gates.get g).holdLevel = hold ∧
        (t.gates.get g).demand = demandOf (s.gates.get g).settleHold mode (t.mapKind c.guarded) c.onConvoy ∧
        ∃ x y, x = { s.gates.get g with
            mode := mode, holdLevel := hold
            bypass := (s.gates.get g).bypass ||
              (decide (a = .forceClose gate) && decide ((s.gates.get g).state ≠ .closed)) } ∧
          y = reacts { s with engine := t.engine } g c x ∧ (∀ m ∈ y.2, m ∈ others) ∧
          ((a ≠ .forceClose gate ∨ y.1.state ≠ .warning) → t.gates.get g = y.1) ∧
          (a = .forceClose gate → y.1.state = .warning →
            t.gates.get g = entered s g c y.1 .lowering ∨ ∃ b, t.gates.get g = { y.1 with signWait := b })) ∧
      (∀ g, (∀ a ∈ acts, ∀ gate, gateOf a = some gate → GateId.ofCode gate ≠ some g) →
        t.gates.get g = s.gates.get g) ∧
      (∀ panel p, OrderAction.clearFault (16 + panel) ∈ acts → Panel.ofCode panel = some p →
        t.panels.get p = { s.panels.get p with
          misses := List.replicate 16 0, cause := none, faultRow := none, state := .dark, render := .running s.clock,
          back := ⟨none, false, []⟩ }) ∧
      (∀ p, (∀ a ∈ acts, ∀ panel, a = .clearFault (16 + panel) → Panel.ofCode panel ≠ some p) →
        t.panels.get p = s.panels.get p) ∧
      (∀ gate g, OrderAction.clearFault gate ∈ acts → GateId.ofCode gate = some g → s.up g ≠ s.down g →
        (t.gates.get g).state ≠ .fault ∧ (t.gates.get g).cause = none) ∧
      (∀ (gate : Nat) (g : GateId) (c : GateCfg), OrderAction.clearFault gate ∈ acts → GateId.ofCode gate = some g →
        s.cfg.gates.get g = some c → ∃ (u : State) (x : Gate) (asks : List Instr), u = { s with engine := t.engine } ∧
          x = { s.gates.get g with demand := demandNow u c (s.gates.get g) } ∧ (∀ m ∈ asks, m ∈ others) ∧
          (s.up g = true → s.down g = false → (t.gates.get g, asks) = opens u g c x) ∧
          (s.up g = false → s.down g = true → (t.gates.get g, asks) =
            if x.demand = .opening then entersThrough u g c x .closed .raising else enters u g c x .closed) ∧
          (s.up g = false → s.down g = false → (t.gates.get g, asks) = enters u g c x .raising) ∧
          (s.up g = true → s.down g = true →
            t.gates.get g = { s.gates.get g with cause := some .limitConflict } ∧ asks = [])) ∧
      (OrderAction.restart ∈ acts → t.port.restart = true) ∧
      { t with
        engine := s.engine, line := s.line, displays := s.displays, gates := s.gates, panels := s.panels,
        told := s.told, port := s.port } = s)

/-- AMEND and LIFT of a held IN_FORCE record whose checks pass: the version rises by one, the amender becomes this station;
AMEND takes level E and the new kind, range, message and expiry, LIFT keeps the rest and leaves a tombstone; the local fields
are set as for an issue, an ORIGINATED frame of the record is handed to the queue, a refusal setting the early-refresh mark;
the map is recomputed, the pending set and the transmitter follow, every other slot stays, and the response is OK with no key;
the Hazard Unit is told of an own tagged record, then the fitted gates where the map has changed, and the Claim Unit. That a
request acts with the port IDLE, and that a response begins at once and runs without idle time, are the model's choices (logs
8 and 43) (R14, R15, R17, R23 to R25, R29, R31, R40, R41, R167, R169). -/
def Obligations.AmendAndLift : Prop :=
  (∀ (s : State) (level origin number kind first last remaining : Nat) (message : Option Nat) (k : NoticeKind) (i : Nat)
    (r : NoticeRecord),
    Serves s (.amend level origin number kind first last remaining message) → level ≤ 3 → max s.keyLevel level ≤ 2 →
    1 ≤ origin → origin ≤ 60 → number ≤ 255 → slotOf s.engine.table ⟨origin, number⟩ = some i →
    recordAt s.engine.table i = some r → r.notice.state = .inForce → max s.keyLevel level ≤ r.notice.level →
    r.notice.version ≤ 13 → kindOf kind = some k → first ≤ last → last ≤ 31 → remaining ≤ 10080 →
    (∀ d, message = some d → d ≤ 31 ∧ (s.descriptor d).present = true ∧
      max s.keyLevel level ≤ (s.descriptor d).cfg.postLevel) →
    ∃ t r' refused, exec (.amend level origin number kind first last remaining message) s = .next t ∧
      recordAt t.engine.table i = some r' ∧
      r' = ⟨{ r.notice with
          version := r.notice.version + 1, amender := s.cfg.station, level := max s.keyLevel level, kind := k,
          firstSec := first, lastSec := last, message := message },
        if remaining = 0 then none else some (s.minute + remaining), s.minute, s.cfg.issueBudget, s.minute,
        r.early || refused, r.tombstone⟩ ∧
      (∀ m, m ≠ i → t.engine.table[m]? = s.engine.table[m]?) ∧ t.engine.map = sectionMap t.engine.table ∧
      LineTakes [] ⟨origin, number⟩ (frameFor s r' .originated s.cfg.issueBudget) refused s.line t.line ∧
      CatchUpFollows [] s t ∧ t.engine.nextNumber = s.engine.nextNumber ∧ t.port = (s.respond .ok []).port ∧
      t.told = (s.take (.amend level origin number kind first last remaining message)).told ++
        changeTells s (some r.notice) (some r'.notice) .order ++ mapTells s t ∧
      { t with engine := s.engine, line := s.line, told := s.told, port := s.port } = s) ∧
  (∀ (s : State) (level origin number i : Nat) (r : NoticeRecord),
    Serves s (.lift level origin number) → level ≤ 3 → max s.keyLevel level ≤ 2 → 1 ≤ origin → origin ≤ 60 →
    number ≤ 255 → slotOf s.engine.table ⟨origin, number⟩ = some i → recordAt s.engine.table i = some r →
    r.notice.state = .inForce → max s.keyLevel level ≤ r.notice.level →
    ∃ t r' refused, exec (.lift level origin number) s = .next t ∧ recordAt t.engine.table i = some r' ∧
      r' = ⟨{ r.notice with version := r.notice.version + 1, amender := s.cfg.station, state := .lifted }, none, s.minute,
        s.cfg.issueBudget, s.minute, r.early || refused, some s.minute⟩ ∧
      (∀ m, m ≠ i → t.engine.table[m]? = s.engine.table[m]?) ∧
      LineTakes [] ⟨origin, number⟩ (frameFor s r' .originated s.cfg.issueBudget) refused s.line t.line ∧
      CatchUpFollows [] s t ∧
      t.engine.map = sectionMap t.engine.table ∧ t.engine.nextNumber = s.engine.nextNumber ∧
      t.port = (s.respond .ok []).port ∧
      t.told = (s.take (.lift level origin number)).told ++
        changeTells s (some r.notice) (some r'.notice) .order ++ mapTells s t ∧
      { t with engine := s.engine, line := s.line, told := s.told, port := s.port } = s)

/-- POST whose checks pass: the panel's stack holds an OPERATOR claim with the descriptor and priority given, level E and the
end time of the duration, placed now unless a post of the same descriptor and priority keeps its placement time, and its other
claims as before. CLEAR_POST removes the OPERATOR claim and no other. A lead that changes is handed to the Panel Driver with
its text, and with no change nothing is told. That a request acts with the port IDLE, and that a response begins at once and
runs without idle time, are the model's choices (logs 8 and 43) (R42, R43, R82, R83). -/
def Obligations.PostAndClearPost : Prop :=
  (∀ (s : State) (level panel descriptor priority duration : Nat) (p : Panel),
    Serves s (.post level panel descriptor priority duration) → level ≤ 3 → max s.keyLevel level ≤ 2 →
    Panel.ofCode panel = some p → (s.cfg.panels.get p).isSome = true → descriptor ≤ 63 → duration ≤ 1440 →
    (s.descriptor descriptor).present = true → (s.descriptor descriptor).cfg.mask.get p = true →
    max s.keyLevel level ≤ (s.descriptor descriptor).cfg.postLevel →
    priority ≤ (if max s.keyLevel level = 0 then 15 else if max s.keyLevel level = 1 then 13 else 11) →
    (∀ c ∈ (s.displays.get p).claims, c.id = .operator → ∀ l, c.level = some l → max s.keyLevel level ≤ l) →
    ∃ t c, exec (.post level panel descriptor priority duration) s = .next t ∧ c ∈ (t.displays.get p).claims ∧
      c.id = .operator ∧ c.descriptor = descriptor ∧ c.priority = priority ∧
      c.level = some (max s.keyLevel level) ∧
      c.endTime = (if duration = 0 then none else some (s.minute + duration)) ∧
      (match (s.displays.get p).claims.find? (fun x => x.id = .operator) with
        | some old =>
          if old.descriptor = descriptor ∧ old.priority = priority then c.placed = old.placed else c.placed = s.clock
        | none => c.placed = s.clock) ∧
      (t.displays.get p).claims.filter (fun x => x.id ≠ .operator) =
        (s.displays.get p).claims.filter (fun x => x.id ≠ .operator) ∧
      (∀ q, q ≠ p → t.displays.get q = s.displays.get q) ∧ t.port = (s.respond .ok []).port ∧
      LeadsTold s t (s.take (.post level panel descriptor priority duration)).told ∧
      { t with displays := s.displays, told := s.told, port := s.port } = s) ∧
  (∀ (s : State) (level panel : Nat) (p : Panel) (c : Claim),
    Serves s (.clearPost level panel) → level ≤ 3 → max s.keyLevel level ≤ 2 → Panel.ofCode panel = some p →
    (s.cfg.panels.get p).isSome = true → c ∈ (s.displays.get p).claims → c.id = .operator →
    (∀ c ∈ (s.displays.get p).claims, c.id = .operator → ∀ l, c.level = some l → max s.keyLevel level ≤ l) →
    ∃ t, exec (.clearPost level panel) s = .next t ∧
      (t.displays.get p).claims = (s.displays.get p).claims.filter (fun x => x.id ≠ .operator) ∧
      (∀ q, q ≠ p → t.displays.get q = s.displays.get q) ∧ t.port = (s.respond .ok []).port ∧
      LeadsTold s t (s.take (.clearPost level panel)).told ∧
      { t with displays := s.displays, told := s.told, port := s.port } = s)

/-- The gate actions on a fitted gate whose checks pass: HOLD_OPEN and HOLD_CLOSED set their mode with hold level E, RELEASE
sets AUTO with none, FORCE_CLOSE sets HELD_CLOSED with level 0 and, unless the gate is CLOSED, the bypass mark; the demand is
worked out afresh, and where it is a new one the gate moves in the same change, its outputs, times, marks and claims those of
the state it enters. A FORCE_CLOSE that leaves the gate in WARNING tests the lowering conditions in that change. The other
gate and everything but the messages and the response stay. That only the claim the stack holds now counts as shown is the
model's reading (log 21). That a request acts with the port IDLE, and that a response begins at once and runs without idle
time, are the model's choices (logs 8 and 43) (R38, R44, R45, R51 to R60, R62 to R67). -/
def Obligations.GateModes : Prop :=
  (∀ (settle conv : Bool) (mode : GateMode) (kind : Option NoticeKind), demandOf settle mode kind conv =
    if settle = true then .closing
    else match mode with
      | .heldOpen => .opening
      | .heldClosed => .closing
      | .auto => if kind = some .fullClosure ∨ (kind = some .convoy ∧ conv = true) then .closing else .opening) ∧
  ∀ (s : State) (c : Instr) (level gate : Nat) (g : GateId) (cfg : GateCfg) (mode : GateMode) (hold : Option Nat),
    ((c = .holdOpen level gate ∧ max s.keyLevel level ≤ 1 ∧ mode = .heldOpen ∧ hold = some (max s.keyLevel level)) ∨
      (c = .holdClosed level gate ∧ max s.keyLevel level ≤ 2 ∧ mode = .heldClosed ∧
        hold = some (max s.keyLevel level)) ∨
      (c = .release level gate ∧ max s.keyLevel level ≤ 2 ∧ mode = .auto ∧ hold = none) ∨
      (c = .forceClose level gate ∧ max s.keyLevel level = 0 ∧ mode = .heldClosed ∧ hold = some 0)) →
    Serves s c → level ≤ 3 → GateId.ofCode gate = some g → s.cfg.gates.get g = some cfg →
    ((s.gates.get g).mode = .auto ∨ ∀ l, (s.gates.get g).holdLevel = some l → max s.keyLevel level ≤ l) →
    ∃ t x y, exec c s = .next t ∧ (t.gates.get g).mode = mode ∧ (t.gates.get g).holdLevel = hold ∧
      (t.gates.get g).demand = demandOf (s.gates.get g).settleHold mode (s.mapKind cfg.guarded) cfg.onConvoy ∧
      (c = .forceClose level gate → (s.gates.get g).state ≠ .closed → (t.gates.get g).bypass = true) ∧
      (c = .forceClose level gate → (s.gates.get g).state = .closed →
        (t.gates.get g).bypass = (s.gates.get g).bypass) ∧
      x = { s.gates.get g with
        mode := mode, holdLevel := hold
        bypass := (s.gates.get g).bypass ||
          (decide (c = .forceClose level gate) && decide ((s.gates.get g).state ≠ .closed)) } ∧
      y = reacts s g cfg x ∧ t.told = (s.take c).told ++ y.2 ∧
      ((c ≠ .forceClose level gate ∨ y.1.state ≠ .warning) → t.gates.get g = y.1) ∧
      (c = .forceClose level gate → y.1.state = .warning →
        LoweringTested { s with gates := s.gates.set g y.1 } g cfg (s.beamBroken g) (t.gates.get g)) ∧
      (∀ h, h ≠ g → t.gates.get h = s.gates.get h) ∧ t.port = (s.respond .ok []).port ∧
      { t with gates := s.gates, told := s.told, port := s.port } = s

/-- CLEAR_FAULT of a configured panel in FAULT: the miss counts, the cause and the row are cleared, the panel is DARK and a
render begins, whose back image the model holds blank while it runs (log 29). CLEAR_FAULT of a fitted gate in FAULT: the gate
recovers from its limits as R71 gives, through OPEN or CLOSED where the demand takes it straight on, its outputs, times, marks
and claims those of the states it enters, and with both limits active stays in FAULT with cause LIMIT_CONFLICT. Both are
answered OK, and the latch of the object stays. That a request acts with the port IDLE, and that a response begins at once and
runs without idle time, are the model's choices (logs 8 and 43) (R46, R51, R52, R54, R55, R56, R61, R64, R71, R111). -/
def Obligations.ClearFaultRecovers : Prop :=
  (∀ (s : State) (level panel : Nat) (p : Panel), Serves s (.clearFault level (16 + panel)) → level ≤ 3 →
    max s.keyLevel level ≤ 2 → Panel.ofCode panel = some p → (s.cfg.panels.get p).isSome = true →
    (s.panels.get p).state = .fault →
    exec (.clearFault level (16 + panel)) s = .next
      (({ s.take (.clearFault level (16 + panel)) with
        panels := s.panels.set p { s.panels.get p with
          misses := List.replicate 16 0, cause := none, faultRow := none, state := .dark, render := .running s.clock,
          back := ⟨none, false, []⟩ } }.tell [.leadStateReport p]).respond .ok [])) ∧
  (∀ (s : State) (level gate : Nat) (g : GateId) (c : GateCfg), Serves s (.clearFault level gate) → level ≤ 3 →
    max s.keyLevel level ≤ 2 → GateId.ofCode gate = some g → s.cfg.gates.get g = some c →
    (s.gates.get g).state = .fault →
    s.gateDemand g c =
      (if (s.gates.get g).settleHold = true then .closing
      else match (s.gates.get g).mode with
        | .heldOpen => .opening
        | .heldClosed => .closing
        | .auto =>
          if s.mapKind c.guarded = some .fullClosure ∨ (s.mapKind c.guarded = some .convoy ∧ c.onConvoy = true)
          then .closing else .opening) ∧
    ∃ t x asks, exec (.clearFault level gate) s = .next t ∧ x = { s.gates.get g with demand := s.gateDemand g c } ∧
      t.told = (s.take (.clearFault level gate)).told ++ asks ∧
      (s.up g = true → s.down g = false → (t.gates.get g, asks) = opens s g c x) ∧
      (s.up g = false → s.down g = true → (t.gates.get g, asks) =
        if s.gateDemand g c = .opening then entersThrough s g c x .closed .raising else enters s g c x .closed) ∧
      (s.up g = false → s.down g = false → (t.gates.get g, asks) = enters s g c x .raising) ∧
      (s.up g = true → s.down g = true → asks = []) ∧
      (s.up g = true → s.down g = false → (t.gates.get g).demand = s.gateDemand g c ∧ (t.gates.get g).cause = none ∧
        (t.gates.get g).state = (if s.gateDemand g c = .opening then .opened else .warning)) ∧
      (s.up g = false → s.down g = true → (t.gates.get g).demand = s.gateDemand g c ∧ (t.gates.get g).cause = none ∧
        (t.gates.get g).state = (if s.gateDemand g c = .opening then .raising else .closed)) ∧
      (s.up g = false → s.down g = false → (t.gates.get g).demand = s.gateDemand g c ∧ (t.gates.get g).cause = none ∧
        (t.gates.get g).state = .raising ∧ (t.gates.get g).raise = true ∧ (t.gates.get g).motion = some s.clock) ∧
      (s.up g = true → s.down g = true →
        t.gates.get g = { s.gates.get g with cause := some .limitConflict }) ∧
      (∀ h, h ≠ g → t.gates.get h = s.gates.get h) ∧ t.port = (s.respond .ok []).port ∧
      { t with gates := s.gates, told := s.told, port := s.port } = s)

/-- RESTART at effective level 0 is answered OK and leaves everything else as it was but that the reset follows: when the last
character of that response has been sent, RESPONSE_COMPLETE resets the station, which passes through RESET_HELD into LOADING;
that the terminals keep their levels and the waiting commands stay is the model's choice, as are the reset values the manual
does not give (logs 6 and 7). Without a RESTART, RESPONSE_COMPLETE in RUNNING returns the port to IDLE at its configured
setting. That a request acts with the port IDLE, and that a response begins at once and runs without
idle time, are the model's choices (logs 8 and 43)
(R47, R181, R182, R186). -/
def Obligations.RestartResets : Prop :=
  (∀ (s : State) (level : Nat), Serves s (.restart level) → level ≤ 3 → max s.keyLevel level = 0 →
    exec (.restart level) s = .next
      ({ s.take (.restart level) with port := { s.port with restart := true } }.respond .ok [])) ∧
  (∀ (s : State) (frame : List Byte), s.port.state = .responding frame 0 → s.port.restart = true →
    exec .responseComplete s = .next { State.reset with
      pending := s.pending, inputs := s.inputs.map (fun x => Input.reset x.terminal), startUp := .loading }) ∧
  (∀ (s : State) (frame : List Byte), s.startUp = .running → s.port.state = .responding frame 0 →
    s.port.restart = false →
    exec .responseComplete s = .next { s.take .responseComplete with
      port := { s.port with state := .idle, rate := s.cfg.portRate, parity := s.cfg.portParity } })

/-! ## The service port -/

/-- STATUS is answered OK in every state in which the port runs, with the fields of R183 in their order, the codes and widths
that the manual leaves open being the model's choice (log 14); an unknown request is answered UNKNOWN_REQUEST in each of these
states, where that a READ of a class that does not exist counts as one is the model's choice (log 42); and in LOADING and
UNCONFIGURED every other request, a READ, an ORDER or one that clears, and every order action as a row of its own, is answered
NOT_READY. Nothing else of the state changes but that the response is sent: its frame has the bytes of 13.2. That a request
acts with the port IDLE, and that a response begins at once and runs without idle time, are the model's choices (logs 8 and
43) (R163, R182, R183, R190). -/
def Obligations.StatusAndUnknown : Prop :=
  (∀ s : State, s.startUp ≠ .resetHeld → (s.port.state = .idle ∨ s.port.state = .serving .status) →
    exec .status s = .next ((s.take .status).respond .ok
      ([match s.startUp with
        | .resetHeld => 0#8
        | .loading => 1#8
        | .running => 2#8
        | .unconfigured => 3#8,
       match s.failure with
        | none => 0xFF#8
        | some f => byte (failureCode f),
       if s.settling then 1#8 else 0#8,
       if s.startUp = .running then byte s.cfg.station else 0xFF#8,
       if s.attention then 1#8 else 0#8,
       byte (s.faults.count true + s.inputs.countP (fun x => x.latch))] ++
       [byte (s.port.overrun / 256), byte s.port.overrun]))) ∧
  (∀ s : State, s.startUp ≠ .resetHeld → (s.port.state = .idle ∨ s.port.state = .serving .unknownRequest) →
    exec .unknownRequest s = .next ((s.take .unknownRequest).respond .unknownRequest [])) ∧
  (∀ (s : State) (c : Instr), (s.startUp = .loading ∨ s.startUp = .unconfigured) →
    (s.port.state = .idle ∨ s.port.state = .serving c) → needsRunning c = true →
    exec c s = .next ((s.take c).respond .notReady [])) ∧
  (∀ (s : State) (st : Status) (data : List Byte), ∃ body frame : List Byte,
    body = byte (data.length + 1) :: (match st with
      | .ok => 0#8
      | .unknownRequest => 1#8
      | .badIndex => 2#8
      | .notReady => 3#8
      | .refused => 4#8) :: data ∧
    frame = 0x3E#8 :: body ++ crcBytes body ∧
    s.respond st data = { s with port := { s.port with
      state := .responding frame (frame.length * (if s.port.parity = true then 11 else 10) * 1000000) } })

/-- Every READ but that of a descriptor leaves the station's state as it was but for the response: OK with the object's data for
an index that names something, BAD_INDEX for one that does not. Of the sensor codes 0 to 4 name a role, 129 to 140 a place of
the scan list whose entry is NONE, and every other is answered BAD_INDEX; 0 to 2 name a panel, and 0 and 1 a gate. The codes and
widths that the manual leaves open are the model's choice, as is which of two tagged records or of two reports of one path is
given (logs 14, 30 and 31). That a request acts with the port IDLE, and that a response begins at once and runs without idle
time, are the model's choices (logs 8 and 43) (R31, R74, R112, R127, R150, R161, R171, R180, R184). -/
def Obligations.ReadsLeaveState : Prop :=
  ∀ s : State,
    (∀ slot, Serves s (.readNoticeBySlot slot) → exec (.readNoticeBySlot slot) s =
      .next ((s.take (.readNoticeBySlot slot)).answer
        (if slot < 32 then some (match recordAt s.engine.table slot with
          | some r => 1#8 :: encodeNotice r.notice (r.remaining s.minute) ++ optMinute r.expiry ++ minuteBytes r.heard ++
              [byte r.bestHop] ++ minuteBytes r.stamp ++ [flag r.early] ++ optMinute r.tombstone ++ [byte slot]
          | none => [0#8]) else none))) ∧
    (∀ origin number, Serves s (.readNoticeByKey origin number) →
      (slotOf s.engine.table ⟨origin, number⟩ = none → 1 ≤ origin → origin ≤ 60 →
        exec (.readNoticeByKey origin number) s = .next ((s.take (.readNoticeByKey origin number)).respond .ok [0#8])) ∧
      (∀ i, slotOf s.engine.table ⟨origin, number⟩ = some i → 1 ≤ origin → origin ≤ 60 →
        exec (.readNoticeByKey origin number) s =
          .next ((s.take (.readNoticeByKey origin number)).respond .ok (s.noticeData (some i)))) ∧
      ((origin = 0 ∨ 60 < origin) → exec (.readNoticeByKey origin number) s =
        .next ((s.take (.readNoticeByKey origin number)).respond .badIndex []))) ∧
    (∀ sec, Serves s (.readSectionMapEntry sec) → exec (.readSectionMapEntry sec) s =
      .next ((s.take (.readSectionMapEntry sec)).answer
        (if sec < 32 then some (mapEntryData (s.engine.map.getD sec {})) else none))) ∧
    (∀ entry, Serves s (.readPeerEntry entry) → exec (.readPeerEntry entry) s =
      .next ((s.take (.readPeerEntry entry)).answer (if entry < 16 then some (peerData (s.peer entry)) else none))) ∧
    (∀ index, Serves s (.readLocalPath index) → exec (.readLocalPath index) s =
      .next ((s.take (.readLocalPath index)).answer ((s.cfg.paths[index]?).map fun c =>
        pathCfgData c ++ pathStateData c (s.path index) ++
          [flag (decide (s.acq.ring.length < 6)), byte (requestCode (s.path index).request)] ++
          taggedData (s.tagged index).head?))) ∧
    (∀ index, Serves s (.readRemotePath index) → exec (.readRemotePath index) s =
      .next ((s.take (.readRemotePath index)).answer ((s.cfg.remotes[index]?).map fun c =>
        [byte c.number, byte c.warnDesc, byte c.closeDesc, byte (s.effectiveOf (.remote index)).rank] ++
          listBytes (s.reporters c.number) fun x => [byte x.1, byte x.2.rank]))) ∧
    (∀ place, Serves s (.readRingRecord place) → exec (.readRingRecord place) s =
      .next ((s.take (.readRingRecord place)).answer ((s.acq.ring[place]?).map fun x =>
        word (x.hour % 65536) ++ optWord (x.depth.map Int.toNat) ++ optSword x.air ++
          [byte x.activity, byte s.acq.ring.length, byte s.acq.running]))) ∧
    (∀ code, Serves s (.readSensorRole code) → exec (.readSensorRole code) s =
      .next ((s.take (.readSensorRole code)).answer (s.sensorData code))) ∧
    (∀ code r, Serves s (.readSensorRole code) →
      (code, r) ∈ [(0, Role.roadTemp), (1, .airTemp), (2, .wind), (3, .snowDepth), (4, .light)] →
      exec (.readSensorRole code) s = .next ((s.take (.readSensorRole code)).respond .ok
        ((match s.cfg.scanList.find? fun e => e.role = some r with
          | some e =>
            byte (validityCode (s.acq.roles.get r).validity) :: filteredBytes r (s.acq.roles.get r).filtered ++
              optWord (s.acq.roles.get r).raw ++ [byte (s.acq.roles.get r).faults] ++
              optTime (s.acq.roles.get r).invalidSince ++ entryData e
          | none => [byte (validityCode (s.acq.roles.get r).validity)]) ++ s.rulesData r))) ∧
    (∀ (code : Nat) (e : ScanEntry), Serves s (.readSensorRole code) → 129 ≤ code → code ≤ 140 →
      s.cfg.scanList[code - 129]? = some e → e.role = none →
      exec (.readSensorRole code) s = .next ((s.take (.readSensorRole code)).respond .ok
        (byte e.channel :: optWord (s.acq.spare.getD (code - 129) none)))) ∧
    (∀ code, Serves s (.readSensorRole code) → 4 < code →
      (code < 129 ∨ 140 < code ∨ ∀ e, s.cfg.scanList[code - 129]? = some e → e.role ≠ none) →
      exec (.readSensorRole code) s = .next ((s.take (.readSensorRole code)).respond .badIndex [])) ∧
    (Panel.ofCode 0 = some .a ∧ Panel.ofCode 1 = some .b ∧ Panel.ofCode 2 = some .c ∧ ∀ n, 3 ≤ n → Panel.ofCode n = none) ∧
    (GateId.ofCode 0 = some .g0 ∧ GateId.ofCode 1 = some .g1 ∧ ∀ n, 2 ≤ n → GateId.ofCode n = none) ∧
    (∀ panel, Serves s (.readPanel panel) → exec (.readPanel panel) s = .next ((s.take (.readPanel panel)).answer
      ((Panel.ofCode panel).bind fun p => (s.cfg.panels.get p).map fun c => s.panelData p c))) ∧
    (∀ gate, Serves s (.readGate gate) → exec (.readGate gate) s = .next ((s.take (.readGate gate)).answer
      ((GateId.ofCode gate).bind fun g => (s.cfg.gates.get g).map fun c => s.gateData g c))) ∧
    (Serves s .readLatches → exec .readLatches s = .next ((s.take .readLatches).respond .ok s.latchesData)) ∧
    (Serves s .readCounters → exec .readCounters s = .next ((s.take .readCounters).respond .ok s.countersData))

/-- READ_DESCRIPTOR reports the descriptor with its accessed mark as it stood and clears the mark in the same change; a number
above 63 is answered BAD_INDEX. Nothing else changes; the form of an absent field and the two bytes of its offset are the
model's choice (log 14). That a request acts with the port IDLE, and that a response begins at once and runs without idle
time, are the model's choices (logs 8 and 43) (R78, R97, R184). -/
def Obligations.ReadDescriptorClearsMark : Prop :=
  ∀ (s : State) (d : Nat), Serves s (.readDescriptor d) →
    (d < 64 → exec (.readDescriptor d) s = .next
      ({ s.take (.readDescriptor d) with store := s.store.set d { s.descriptor d with accessed := false } }.respond .ok
        ([flag (s.descriptor d).present] ++ word (s.descriptor d).cfg.base ++
          [byte (s.descriptor d).cfg.limit, byte (granularityCode (s.descriptor d).cfg.granularity),
           byte (s.descriptor d).cfg.postLevel, flag (s.descriptor d).cfg.flash, panelSet (s.descriptor d).cfg.mask] ++
          fieldData (s.descriptor d).cfg.field ++ [flag (s.descriptor d).accessed]))) ∧
    (64 ≤ d → exec (.readDescriptor d) s = .next ((s.take (.readDescriptor d)).respond .badIndex []))

/-- CLEAR_LATCHES clears every named latch and in the same change sets again each named station fault latch whose cause stands,
and ATTENTION follows; a latch that is not named keeps its value; a name that is no station fault latch is answered BAD_INDEX
and clears nothing. The cause of a latch stands while its panel or gate is in FAULT, its role is FAILED, or for
AUTO_NOTICE_REFUSED some path has its issue pending mark set. CLEAR_COUNTERS sets all twelve counters to 0 and nothing else; its
response data are the model's choice, as are those of CLEAR_LATCHES, the latches as they stand as two masks (log 9), and that a
named latch which is clear while its cause stands is set (log 45). That a request acts with the port IDLE, and that a response
begins at once and runs without idle time, are the model's choices (logs 8 and 43) (R171, R176, R177, R178, R185). -/
def Obligations.Clearing : Prop :=
  (∀ (s : State) (im fm : Word16), Serves s (.clearLatches im fm) → fm.getLsbD 14 = false → fm.getLsbD 15 = false →
    ∃ t, exec (.clearLatches im fm) s = .next t ∧
      (∀ l : FaultLatch, t.faultSet l = if fm.getLsbD l.bit then s.causeStands l else s.faultSet l) ∧
      (∀ (i : Nat) (x : Input), s.inputs[i]? = some x →
        t.inputs[i]? = some (if im.getLsbD i then { x with latch := false } else x)) ∧
      AttentionFollows t ∧ t.told = (s.take (.clearLatches im fm)).told ∧
      (∃ im' fm' : Word16, t.port = (s.respond .ok (word im'.toNat ++ word fm'.toNat)).port ∧
        (∀ (i : Nat) (x : Input), i < 16 → t.inputs[i]? = some x → im'.getLsbD i = x.latch) ∧
        (∀ l : FaultLatch, fm'.getLsbD l.bit = t.faultSet l) ∧ fm'.getLsbD 14 = false ∧ fm'.getLsbD 15 = false) ∧
      { t with faults := s.faults, inputs := s.inputs, attention := s.attention, told := s.told, port := s.port } = s) ∧
  (∀ (s : State) (im fm : Word16), Serves s (.clearLatches im fm) → (fm.getLsbD 14 = true ∨ fm.getLsbD 15 = true) →
    exec (.clearLatches im fm) s = .next ((s.take (.clearLatches im fm)).respond .badIndex [])) ∧
  (∀ s : State,
    (∀ p, s.causeStands (.panelFault p) = true ↔ (s.panels.get p).state = .fault) ∧
    (∀ g, s.causeStands (.gateFault g) = true ↔ (s.gates.get g).state = .fault) ∧
    (∀ r, s.causeStands (.sensorInvalid r) = true ↔ (s.acq.roles.get r).validity = .failed) ∧
    (s.causeStands .autoNoticeRefused = true ↔ ∃ x ∈ s.hazard.paths, x.issuePending = true) ∧
    s.causeStands .duplicateStation = false ∧ s.causeStands .noticeTableFull = false ∧
    s.causeStands .inboxDrop = false) ∧
  (∀ s : State, Serves s .clearCounters → exec .clearCounters s = .next
    ({ s.take .clearCounters with
      line := { s.line with counters := ⟨0, 0, 0, 0, 0, 0, 0, 0, 0⟩ }
      bulletin := { s.bulletin with malformed := 0, tableFull := 0 }
      port := { s.port with overrun := 0 } }.respond .ok (List.replicate 24 0#8)))

/-- A character at the port outside RESET_HELD: in IDLE 0x3C begins a frame and any other is passed over, as is a 0x3C with an
error, which is the model's choice (log 39); in RECEIVING, within 50 ms of the one before, an error, a wrong length or a check
that does not agree discards the frame, and a check that agrees makes it a request; a parity error counts only where parity is
in use; after more than 50 ms the frame is discarded and the character taken as in IDLE, though the timeout still waits, the
50 ms being counted between the ends of the two characters, which is the model's choice (log 19); in SERVING and RESPONDING it
is discarded and counted. REQUEST_GAP_TIMEOUT discards a frame after more than 50 ms; that one not yet due changes nothing is
the model's reading too (log 3) (R181, R182). -/
def Obligations.PortCharacters : Prop :=
  (∀ (s : State) (c : Byte) (fe pe : Bool), s.startUp ≠ .resetHeld →
    ((s.port.state = .idle → exec (.servicePortCharacter c fe pe) s = .next
      (if c = 0x3C#8 ∧ fe = false ∧ (pe = false ∨ s.port.parity = false) then
        { s with port := { s.port with state := .receiving [] 0 } } else s)) ∧
    (∀ request, s.port.state = .serving request → exec (.servicePortCharacter c fe pe) s =
      .next { s with port := { s.port with overrun := min 65535 (s.port.overrun + 1) } }) ∧
    (∀ frame left, s.port.state = .responding frame left → exec (.servicePortCharacter c fe pe) s =
      .next { s with port := { s.port with overrun := min 65535 (s.port.overrun + 1) } }) ∧
    (∀ got gap, s.port.state = .receiving got gap → 50000 < gap → exec (.servicePortCharacter c fe pe) s =
      exec (.servicePortCharacter c fe pe) { s with port := { s.port with state := .idle } }) ∧
    (∀ got gap, s.port.state = .receiving got gap → gap ≤ 50000 → (fe = true ∨ (pe = true ∧ s.port.parity = true)) →
      exec (.servicePortCharacter c fe pe) s = .next { s with port := { s.port with state := .idle } }) ∧
    (∀ gap, s.port.state = .receiving [] gap → gap ≤ 50000 → (c.toNat = 0 ∨ 120 < c.toNat) →
      exec (.servicePortCharacter c fe pe) s = .next { s with port := { s.port with state := .idle } }) ∧
    (∀ got gap, s.port.state = .receiving got gap → gap ≤ 50000 → fe = false →
      (pe = false ∨ s.port.parity = false) →
      (got = [] → 1 ≤ c.toNat ∧ c.toNat ≤ 120) → (∀ n, got.head? = some n → got.length + 1 < n.toNat + 3) →
      exec (.servicePortCharacter c fe pe) s = .next
        { s with port := { s.port with state := .receiving (got ++ [c]) 0 } }) ∧
    (∀ got gap kindBody, s.port.state = .receiving got gap → gap ≤ 50000 → fe = false →
      (pe = false ∨ s.port.parity = false) →
      1 ≤ kindBody.length → kindBody.length ≤ 120 →
      got ++ [c] = (byte kindBody.length :: kindBody) ++ crcBytes (byte kindBody.length :: kindBody) →
      exec (.servicePortCharacter c fe pe) s = .next
        ({ s with port := { s.port with state := .serving (decodeRequest kindBody) } }.tell [decodeRequest kindBody])) ∧
    (∀ got gap kindBody check, s.port.state = .receiving got gap → gap ≤ 50000 → fe = false →
      (pe = false ∨ s.port.parity = false) →
      1 ≤ kindBody.length → kindBody.length ≤ 120 → got ++ [c] = (byte kindBody.length :: kindBody) ++ check →
      check.length = 2 → check ≠ crcBytes (byte kindBody.length :: kindBody) →
      exec (.servicePortCharacter c fe pe) s = .next { s with port := { s.port with state := .idle } }))) ∧
  (∀ (s : State) (got : List Byte) (gap : Nat), s.port.state = .receiving got gap →
    exec .requestGapTimeout s = .next
      (if 50000 < gap then { s.take .requestGapTimeout with port := { s.port with state := .idle } }
      else s.take .requestGapTimeout))

/-! ## The gates -/

/-- DEMAND_REEVALUATION of a fitted gate: its demand is the one its settle hold, its mode and the section map entry of its
guarded section give; the same demand changes nothing; a change to OPEN leads WARNING and WAIT_CLEAR to OPEN and LOWERING,
RETREAT and CLOSED to RAISING, and a change to CLOSE leads OPEN to WARNING, in the same change: entering WARNING
sets the entry time to now and the retreat count to 0 and asks for the GATE claims, entering OPEN withdraws them and clears the
bypass mark, entering RAISING puts the raise drive on and times a leg from now, or goes on with that of a RETREAT; outputs and
flasher follow (R51 to R56, R61 to R67). -/
def Obligations.DemandReevaluation : Prop :=
  ∀ (s : State) (g : GateId) (c : GateCfg), s.startUp = .running → s.cfg.gates.get g = some c →
    ∃ t, exec (.demandReevaluation g) s = .next t ∧
      (t.gates.get g).demand =
        (if (s.gates.get g).settleHold = true then .closing
        else
          match (s.gates.get g).mode with
          | .heldOpen => .opening
          | .heldClosed => .closing
          | .auto =>
            if s.mapKind c.guarded = some .fullClosure ∨ (s.mapKind c.guarded = some .convoy ∧ c.onConvoy = true)
            then .closing else .opening) ∧
      ((t.gates.get g).demand = (s.gates.get g).demand → t = s.take (.demandReevaluation g)) ∧
      ((s.gates.get g).demand = .closing → (t.gates.get g).demand = .opening →
        (t.gates.get g).state =
          match (s.gates.get g).state with
          | .warning => .opened
          | .waitClear => .opened
          | .lowering => .raising
          | .retreat => .raising
          | .closed => .raising
          | .opened => .opened
          | .raising => .raising
          | .fault => .fault) ∧
      ((s.gates.get g).demand = .opening → (t.gates.get g).demand = .closing →
        (t.gates.get g).state = if (s.gates.get g).state = .opened then .warning else (s.gates.get g).state) ∧
      t.gates.get g = (reacts s g c (s.gates.get g)).1 ∧
      t.told = (s.take (.demandReevaluation g)).told ++ (reacts s g c (s.gates.get g)).2 ∧
      (t.gates.get g).mode = (s.gates.get g).mode ∧ (t.gates.get g).holdLevel = (s.gates.get g).holdLevel ∧
      (t.gates.get g).settleHold = (s.gates.get g).settleHold ∧ (∀ h, h ≠ g → t.gates.get h = s.gates.get h) ∧
      { t with gates := s.gates, told := s.told } = s

/-- A gate in WARNING that tests the lowering conditions, at its PRE_WARNING_EXPIRY, at a SHOWN_DURATION_REACHED or at a
LEAD_STATE_REPORT of one of its approach panels: it lowers, its leg timed from now, where the pre-warning time has run since
WARNING entry, the beam is clear, and either the bypass mark is set or at least one panel is counted and every counted panel
has shown its GATE claim for the pre-warning time; otherwise it stays in WARNING and SIGN_WAIT is set exactly where the time
has run with no panel counted and no bypass. That only the claim the stack holds now counts as shown is the model's reading
(log 21) (R56, R57, R59, R60). -/
def Obligations.LoweringTest : Prop :=
  ∀ (s : State) (i : Instr) (g : GateId) (c : GateCfg), s.startUp = .running → s.cfg.gates.get g = some c →
    (s.gates.get g).state = .warning →
    (i = .preWarningExpiry g ∨ (∃ p, i = .shownDurationReached g p) ∨
      ∃ p, i = .leadStateReport p ∧ c.approach.get p = true) →
    ∃ t, exec i s = .next t ∧ LoweringTested s g c (s.beamBroken g) (t.gates.get g) ∧
      ((∀ p, i ≠ .leadStateReport p) → ∀ h, h ≠ g → t.gates.get h = s.gates.get h) ∧
      { t with gates := s.gates } = s.take i

/-- The timers of a fitted gate. MOTION_LIMIT_EXPIRY, the limit having run since the leg began: FAULT with cause
MOTION_TIMEOUT, both drives off, the GATE claims withdrawn and the latch asked for. BEAM_CLEAR_TIME_EXPIRY in WAIT_CLEAR with
demand CLOSE, the time having run: LOWERING. FLASHER_PHASE: the flasher is off in OPEN, on in CLOSED, and otherwise half a
second on and half a second off. That a MOTION_LIMIT_EXPIRY that is not yet due changes nothing is the model's reading (log 3)
(R51, R61, R67, R70). -/
def Obligations.GateTimers : Prop :=
  ∀ (s : State) (g : GateId) (c : GateCfg), s.startUp = .running → s.cfg.gates.get g = some c →
    (∀ u, (s.gates.get g).motion = some u →
      (u + c.motionLimit * 1000000 ≤ s.clock →
        ∃ t, exec (.motionLimitExpiry g) s = .next t ∧ (t.gates.get g).state = .fault ∧
          (t.gates.get g).cause = some .motionTimeout ∧ (t.gates.get g).lower = false ∧
          (t.gates.get g).raise = false ∧ (t.gates.get g).motion = none ∧ (t.gates.get g).claims = false ∧
          (t.gates.get g).mode = (s.gates.get g).mode ∧ (t.gates.get g).demand = (s.gates.get g).demand ∧
          t.told = (s.take (.motionLimitExpiry g)).told ++
            (if (s.gates.get g).claims = true then [.gateClaimRequest g .withdraw] else []) ++
            [.latchSetRequest (.gateFault g)] ∧
          (∀ h, h ≠ g → t.gates.get h = s.gates.get h) ∧ { t with gates := s.gates, told := s.told } = s) ∧
      (s.clock < u + c.motionLimit * 1000000 →
        exec (.motionLimitExpiry g) s = .next (s.take (.motionLimitExpiry g)))) ∧
    (∀ u, (s.gates.get g).state = .waitClear → (s.gates.get g).demand = .closing → (s.gates.get g).clear = some u →
      u + c.beamClear * 1000000 ≤ s.clock →
      exec (.beamClearTimeExpiry g) s = .next { s.take (.beamClearTimeExpiry g) with
        gates := s.gates.set g { s.gates.get g with
          state := .lowering, lower := true, raise := false,
          flasher := (s.clock - (s.gates.get g).flashFrom) / 500000 % 2 == 0,
          motion := some s.clock, clear := none, warnEntry := none, signWait := false } }) ∧
    exec (.flasherPhase g) s = .next { s.take (.flasherPhase g) with
      gates := s.gates.set g { s.gates.get g with
        flasher :=
          if (s.gates.get g).state = .opened then false
          else if (s.gates.get g).state = .closed then true
          else (s.clock - (s.gates.get g).flashFrom) / 500000 % 2 == 0 } }

/-- A change of a limit or beam of a fitted gate, taken at once by TERMINAL_LEVEL_CHANGE or at a DEBOUNCE_EXPIRY. UP reached
ends RAISING in OPEN, or on into WARNING with demand CLOSE, and RETREAT in WAIT_CLEAR; DOWN reached ends LOWERING in CLOSED;
either reached with the other active, outside FAULT, is LIMIT_CONFLICT; UP lost in OPEN, WARNING or WAIT_CLEAR and DOWN lost
in CLOSED is DISPLACED; the beam broken in LOWERING is a RETREAT, the third of a closing OBSTRUCTED; in WAIT_CLEAR the beam
stops and starts the beam clear timer; the beam clear again in WARNING tests the lowering conditions, where that only the
claim the stack holds now counts as shown is the model's reading (log 21). Each state entered sets the outputs, times, marks
and claims of its rule, and asks for what it asks in the same change. A gate in FAULT and the other gate stay (R50, R51, R54
to R57, R59, R60, R62 to R70). -/
def Obligations.GateLimitEvents : Prop :=
  ∀ (s : State) (cmd : Instr) (i : Nat) (x : Input) (active : Bool) (g : GateId) (c : GateCfg),
    s.startUp = .running → s.inputs[i]? = some x → s.cfg.gates.get g = some c →
    ((cmd = .terminalLevelChange i active ∧ x.cfg.debounce = 0 ∧ x.terminal ≠ active ∧ x.debounced ≠ active) ∨
      (cmd = .debounceExpiry i ∧ x.terminal = active ∧ ∃ u, x.timer = some u ∧ u + x.cfg.debounce * 1000 ≤ s.clock)) →
    (x.cfg.role = .gateUp g ∨ x.cfg.role = .gateDown g ∨ x.cfg.role = .beam g) →
    ∃ t asks, exec cmd s = .next t ∧
      t.told = (match cmd with
        | .debounceExpiry _ => (s.take cmd).told
        | _ => s.told) ++ asks ∧
      ((s.gates.get g).state = .fault → asks = []) ∧
      (x.cfg.role = .gateUp g → active = true → s.down g = false →
        ((s.gates.get g).state = .raising →
          (t.gates.get g).state = (if (s.gates.get g).demand = .opening then .opened else .warning) ∧
          (t.gates.get g, asks) = opens s g c (s.gates.get g)) ∧
        ((s.gates.get g).state = .retreat → (t.gates.get g, asks) = enters s g c (s.gates.get g) .waitClear) ∧
        ((s.gates.get g).state ≠ .raising → (s.gates.get g).state ≠ .retreat →
          (t.gates.get g, asks) = (s.gates.get g, []))) ∧
      (x.cfg.role = .gateUp g → active = true → s.down g = true → (s.gates.get g).state ≠ .fault →
        (t.gates.get g).state = .fault ∧ (t.gates.get g, asks) = faults s g c (s.gates.get g) .limitConflict) ∧
      (x.cfg.role = .gateUp g → active = false →
        if (s.gates.get g).state = .opened ∨ (s.gates.get g).state = .warning ∨ (s.gates.get g).state = .waitClear then
          (t.gates.get g).state = .fault ∧ (t.gates.get g, asks) = faults s g c (s.gates.get g) .displaced
        else (t.gates.get g, asks) = (s.gates.get g, [])) ∧
      (x.cfg.role = .gateDown g → active = true → s.up g = false →
        if (s.gates.get g).state = .lowering then
          (t.gates.get g).bypass = false ∧ (t.gates.get g, asks) = enters s g c (s.gates.get g) .closed
        else (t.gates.get g, asks) = (s.gates.get g, [])) ∧
      (x.cfg.role = .gateDown g → active = true → s.up g = true → (s.gates.get g).state ≠ .fault →
        (t.gates.get g).state = .fault ∧ (t.gates.get g, asks) = faults s g c (s.gates.get g) .limitConflict) ∧
      (x.cfg.role = .gateDown g → active = false →
        if (s.gates.get g).state = .closed then
          (t.gates.get g).state = .fault ∧ (t.gates.get g, asks) = faults s g c (s.gates.get g) .displaced
        else (t.gates.get g, asks) = (s.gates.get g, [])) ∧
      (x.cfg.role = .beam g → active = true →
        ((s.gates.get g).state = .lowering → (s.gates.get g).retreats < 2 →
          (t.gates.get g).state = .retreat ∧ (t.gates.get g).retreats = (s.gates.get g).retreats + 1 ∧
          (t.gates.get g).raise = true ∧ (t.gates.get g).motion = some s.clock ∧ (t.gates.get g, asks) =
            enters s g c { s.gates.get g with retreats := (s.gates.get g).retreats + 1 } .retreat) ∧
        ((s.gates.get g).state = .lowering → 2 ≤ (s.gates.get g).retreats →
          (t.gates.get g).state = .fault ∧ (t.gates.get g, asks) =
            faults s g c { s.gates.get g with retreats := (s.gates.get g).retreats + 1 } .obstructed) ∧
        ((s.gates.get g).state = .waitClear → (t.gates.get g, asks) = ({ s.gates.get g with clear := none }, [])) ∧
        ((s.gates.get g).state ≠ .lowering → (s.gates.get g).state ≠ .waitClear →
          (t.gates.get g, asks) = (s.gates.get g, []))) ∧
      (x.cfg.role = .beam g → active = false →
        ((s.gates.get g).state = .waitClear →
          (t.gates.get g, asks) = ({ s.gates.get g with clear := some s.clock }, [])) ∧
        ((s.gates.get g).state = .warning → asks = [] ∧ LoweringTested s g c (t.beamBroken g) (t.gates.get g)) ∧
        ((s.gates.get g).state ≠ .waitClear → (s.gates.get g).state ≠ .warning →
          (t.gates.get g, asks) = (s.gates.get g, []))) ∧
      ((s.gates.get g).state = .fault → t.gates.get g = s.gates.get g) ∧
      (∀ h, h ≠ g → t.gates.get h = s.gates.get h) ∧
      { t with inputs := s.inputs, attention := s.attention, gates := s.gates, told := s.told } = s

/-! ## Claims -/

/-- NOTICE_CLAIM: each configured panel holds the NOTICE claim of its notice, the one that governs among the IN_FORCE records
whose range meets its coverage: with the notice's message where that is present and allowed on the panel, otherwise the
panel's default for the kind where that is, and the priority of its kind; otherwise it holds none. Its other claims stay.
A lead that changes is handed to the Panel Driver (R82, R83, R85, R86). -/
def Obligations.NoticeClaimFollowsTable : Prop :=
  ∀ s : State, s.startUp = .running →
    (∀ d p, s.usable d p = true ↔ (s.descriptor d).present = true ∧ (s.descriptor d).cfg.mask.get p = true) ∧
    ∃ t, exec .noticeClaim s = .next t ∧
    (∀ (p : Panel) (c : PanelCfg), s.cfg.panels.get p = some c →
      SameBut [.notice] (s.displays.get p).claims (t.displays.get p).claims ∧
      (∀ n, panelNotice s.engine.table c = some n →
        n ∈ inForce s.engine.table ∧ n.firstSec ≤ c.lastCover ∧ c.firstCover ≤ n.lastSec ∧
        (∀ m ∈ inForce s.engine.table, m.firstSec ≤ c.lastCover → c.firstCover ≤ m.lastSec → ¬Stronger m n) ∧
        (∀ d, ((n.message = some d ∧ s.usable d p = true) ∨
            ((∀ m, n.message = some m → s.usable m p = false) ∧ defaultOf c.defaults n.kind = some d ∧
              s.usable d p = true)) →
          Placed s.clock (s.displays.get p).claims (t.displays.get p).claims .notice d
            (match n.kind with
              | .fullClosure => 14
              | .convoy => 12
              | .oneLane => 10
              | .chains => 9
              | .advisory => 6)) ∧
        ((∀ m, n.message = some m → s.usable m p = false) →
          (∀ d, defaultOf c.defaults n.kind = some d → s.usable d p = false) →
          Absent (t.displays.get p).claims .notice)) ∧
      (∀ m ∈ inForce s.engine.table, m.firstSec ≤ c.lastCover → c.firstCover ≤ m.lastSec →
        ∃ n, panelNotice s.engine.table c = some n) ∧
      ((∀ m ∈ inForce s.engine.table, c.lastCover < m.firstSec ∨ m.lastSec < c.firstCover) →
        Absent (t.displays.get p).claims .notice)) ∧
    (∀ p, s.cfg.panels.get p = none → t.displays.get p = s.displays.get p) ∧
    LeadsTold s t (s.take .noticeClaim).told ∧
    { t with displays := s.displays, told := s.told } = s

/-- HAZARD_CLAIM: for each path of a configured panel's path mask the panel holds the claim of the path's warn descriptor at
priority 8 at effective level WARN, of its close descriptor at priority 11 at CLOSE, where that may be shown there, and
otherwise none; it holds none of a path that is not configured. GATE_AHEAD_CLAIM: a panel whose gate ahead names the sender
holds the claim at priority 13 exactly while the peer entry of that sender is present and reports that gate in a state that
warns. Other claims, those of the paths outside the mask among them, stay, and a lead that changes is handed to the Panel
Driver (R82, R83, R87, R93). -/
def Obligations.HazardAndGateAheadClaims : Prop :=
  ∀ s : State, s.startUp = .running →
    (∀ (i : Nat) (c : PathCfg), s.cfg.paths[i]? = some c →
      pathDescriptors s.cfg (.ours i) = some (c.warnDesc, c.closeDesc)) ∧
    (∀ (i : Nat) (c : RemoteCfg), s.cfg.remotes[i]? = some c →
      pathDescriptors s.cfg (.remote i) = some (c.warnDesc, c.closeDesc)) ∧
    (∀ i : Nat, (s.cfg.paths[i]? = none → pathDescriptors s.cfg (.ours i) = none) ∧
      (s.cfg.remotes[i]? = none → pathDescriptors s.cfg (.remote i) = none)) ∧
    (∀ (i : Nat) (x : PathRec), s.hazard.paths[i]? = some x → s.effectiveOf (.ours i) = x.effective) ∧
    (∀ (i : Nat) (l : Level), s.hazard.remotes[i]? = some l → s.effectiveOf (.remote i) = l) ∧
    (∃ t, exec .hazardClaim s = .next t ∧
      (∀ (p : Panel) (c : PanelCfg), s.cfg.panels.get p = some c →
        SameBut ((pathOrder.filter fun r => c.pathMask.contains r).map .hazard) (s.displays.get p).claims
          (t.displays.get p).claims ∧
        (∀ r ∈ pathOrder, r ∈ c.pathMask → pathDescriptors s.cfg r = none →
          Absent (t.displays.get p).claims (.hazard r)) ∧
        ∀ r ∈ pathOrder, r ∈ c.pathMask → ∀ warn close, pathDescriptors s.cfg r = some (warn, close) →
          (s.effectiveOf r = .warn → s.usable warn p = true →
            Placed s.clock (s.displays.get p).claims (t.displays.get p).claims (.hazard r) warn 8) ∧
          (s.effectiveOf r = .close → s.usable close p = true →
            Placed s.clock (s.displays.get p).claims (t.displays.get p).claims (.hazard r) close 11) ∧
          ((s.effectiveOf r = .quiet ∨ s.effectiveOf r = .watch ∨
              (s.effectiveOf r = .warn ∧ s.usable warn p = false) ∨
              (s.effectiveOf r = .close ∧ s.usable close p = false)) →
            Absent (t.displays.get p).claims (.hazard r))) ∧
      (∀ p, s.cfg.panels.get p = none → t.displays.get p = s.displays.get p) ∧
      LeadsTold s t (s.take .hazardClaim).told ∧
      { t with displays := s.displays, told := s.told } = s) ∧
    (∀ (sender : Nat) (x : Peer), s.peerOf sender = some x ↔
      ∃ i : Nat, s.bulletin.peers[i]? = some (some x) ∧ x.sender = sender ∧
        ∀ j < i, ∀ y : Peer, s.bulletin.peers[j]? = some (some y) → y.sender ≠ sender) ∧
    (∀ sender : Nat, ∃ t, exec (.gateAheadClaim sender) s = .next t ∧
      (∀ (p : Panel) (c : PanelCfg) (a : GateAheadCfg), s.cfg.panels.get p = some c → c.gateAhead = some a →
        a.station = sender →
        ∃ warns : Prop,
          (warns ↔ s.usable a.descriptor p = true ∧ ∃ x, s.peerOf sender = some x ∧ x.present = true ∧
            ∃ r ∈ x.bulletin.gates, r.gate.code = a.gate ∧
              (r.state = .warning ∨ r.state = .lowering ∨ r.state = .retreat ∨ r.state = .waitClear ∨
                r.state = .closed)) ∧
          SameBut [.gateAhead] (s.displays.get p).claims (t.displays.get p).claims ∧
          (warns → Placed s.clock (s.displays.get p).claims (t.displays.get p).claims .gateAhead a.descriptor 13) ∧
          (¬warns → Absent (t.displays.get p).claims .gateAhead)) ∧
      (∀ p, (∀ c a, s.cfg.panels.get p = some c → c.gateAhead = some a → a.station ≠ sender) →
        t.displays.get p = s.displays.get p) ∧
      LeadsTold s t (s.take (.gateAheadClaim sender)).told ∧
      { t with displays := s.displays, told := s.told } = s)

/-- WEATHER_RULE_EVALUATION at a minute boundary: a rule whose measurand is invalid keeps its state; an inactive one becomes
active at its set value or beyond, an active one inactive beyond its clear value. A rule that becomes active places its claim
on each panel that is in its mask, names it and can show it, and on no other; one that becomes inactive has its claims
withdrawn; a lead that changes is handed to the Panel Driver, and nothing else changes. A temperature and the wind are the
filtered values of their roles while those are valid, and new snow is the hazard figure while the snow depth is valid (R82,
R83, R89, R90, R94). -/
def Obligations.WeatherRules : Prop :=
  ∀ s : State, s.startUp = .running → s.atMinute = true →
    (∀ (m : Measurand) (r : Role), (m = .roadTemp ∧ r = .roadTemp ∨ m = .airTemp ∧ r = .airTemp ∨ m = .wind ∧ r = .wind) →
      ∀ v, s.measure m = some v ↔ (s.acq.roles.get r).validity = .valid ∧ (s.acq.roles.get r).filtered = some v) ∧
    (∀ v, s.measure .newSnow = some v ↔ s.acq.roles.snowDepth.validity = .valid ∧ v = s.hazard.newSnow) ∧
    ∃ t, exec .weatherRuleEvaluation s = .next t ∧
    (∀ (i : Nat) (r : RuleCfg), i < 8 → s.cfg.rules[i]? = some r →
      (s.measure r.measurand = none → t.ruleActive i = s.ruleActive i) ∧
      (∀ v, s.measure r.measurand = some v →
        (r.sense = .atOrBelow →
          (s.ruleActive i = false → (t.ruleActive i = true ↔ v ≤ r.setValue)) ∧
          (s.ruleActive i = true → (t.ruleActive i = false ↔ r.clearValue < v))) ∧
        (r.sense = .atOrAbove →
          (s.ruleActive i = false → (t.ruleActive i = true ↔ r.setValue ≤ v)) ∧
          (s.ruleActive i = true → (t.ruleActive i = false ↔ v < r.clearValue)))) ∧
      (∀ (p : Panel) (c : PanelCfg), s.cfg.panels.get p = some c →
        (t.ruleActive i = s.ruleActive i →
          (t.displays.get p).claims.filter (fun x => x.id = .weather i) =
            (s.displays.get p).claims.filter (fun x => x.id = .weather i)) ∧
        (s.ruleActive i = false → t.ruleActive i = true → r.mask.get p = true → i ∈ c.weatherMask →
          s.usable r.descriptor p = true →
          Placed s.clock (s.displays.get p).claims (t.displays.get p).claims (.weather i) r.descriptor r.priority) ∧
        (s.ruleActive i = false → t.ruleActive i = true →
          (r.mask.get p = false ∨ i ∉ c.weatherMask ∨ s.usable r.descriptor p = false) →
          (t.displays.get p).claims.filter (fun x => x.id = .weather i) =
            (s.displays.get p).claims.filter (fun x => x.id = .weather i)) ∧
        (s.ruleActive i = true → t.ruleActive i = false → Absent (t.displays.get p).claims (.weather i)))) ∧
    (∀ i, (i < 8 → s.cfg.rules[i]? = none) → t.ruleActive i = (decide (i < 8) && s.ruleActive i) ∧
      ∀ p, (t.displays.get p).claims.filter (fun x => x.id = .weather i) =
        (s.displays.get p).claims.filter (fun x => x.id = .weather i)) ∧
    (∀ (p : Panel) (c : PanelCfg), s.cfg.panels.get p = some c →
      SameBut ((List.range 8).map .weather) (s.displays.get p).claims (t.displays.get p).claims) ∧
    (∀ p, s.cfg.panels.get p = none → t.displays.get p = s.displays.get p) ∧
    LeadsTold s t (s.take .weatherRuleEvaluation).told ∧
    { t with displays := s.displays, rules := s.rules, told := s.told } = s

/-- POST_END at a minute boundary removes from each configured panel exactly the OPERATOR claims whose end time has come.
GATE_CLAIM_REQUEST to place gives the gate's claim at priority 15 to each of its approach panels that can show its
descriptor, and to withdraw takes it from each of its approach panels; every other claim stays. A lead
that changes is handed to the Panel Driver (R82, R83, R91, R92). -/
def Obligations.PostEndAndGateClaims : Prop :=
  ∀ s : State, s.startUp = .running →
    (s.atMinute = true → ∃ t, exec .postEnd s = .next t ∧
      (∀ p, (s.cfg.panels.get p).isSome = true → (t.displays.get p).claims =
        (s.displays.get p).claims.filter fun c =>
          !(c.id == .operator && c.endTime.any fun m => decide (m ≤ s.minute))) ∧
      (∀ p, s.cfg.panels.get p = none → t.displays.get p = s.displays.get p) ∧
      LeadsTold s t (s.take .postEnd).told ∧
      { t with displays := s.displays, told := s.told } = s) ∧
    (∀ (g : GateId) (c : GateCfg), s.cfg.gates.get g = some c →
      (∃ t, exec (.gateClaimRequest g .place) s = .next t ∧
        (∀ p, (s.cfg.panels.get p).isSome = true → c.approach.get p = true → s.usable c.descriptor p = true →
          Placed s.clock (s.displays.get p).claims (t.displays.get p).claims (.gate g) c.descriptor 15 ∧
          SameBut [.gate g] (s.displays.get p).claims (t.displays.get p).claims) ∧
        (∀ p, (s.cfg.panels.get p = none ∨ c.approach.get p = false ∨ s.usable c.descriptor p = false) →
          t.displays.get p = s.displays.get p) ∧
        LeadsTold s t (s.take (.gateClaimRequest g .place)).told ∧
        { t with displays := s.displays, told := s.told } = s) ∧
      (∃ t, exec (.gateClaimRequest g .withdraw) s = .next t ∧
        (∀ p, (s.cfg.panels.get p).isSome = true → c.approach.get p = true →
          Absent (t.displays.get p).claims (.gate g) ∧
          SameBut [.gate g] (s.displays.get p).claims (t.displays.get p).claims) ∧
        (∀ p, (s.cfg.panels.get p = none ∨ c.approach.get p = false) → t.displays.get p = s.displays.get p) ∧
        LeadsTold s t (s.take (.gateClaimRequest g .withdraw)).told ∧
        { t with displays := s.displays, told := s.told } = s))

/-- FIELD_REFORMAT hands the Panel Driver the text of a panel's lead where it differs from the one last handed to it, and
otherwise changes nothing; ACCESSED_MARK sets the mark of the descriptor and changes nothing else. A message text is the cells
of its span, the field's text in place, up to the first end mark; a field's text is dashes while its measurand is invalid, else
the number: right-aligned behind spaces, a leading minus sign where it is negative, its decimal digits without leading zeros,
and saturated where it does not fit the width. That the text compared is the whole message text, so that a field which an end
mark cuts off is not told, is the model's choice (log 37) (R76, R77, R78, R94, R96). -/
def Obligations.FieldTextAndMark : Prop :=
  (∀ (s : State) (d : Nat), ∃ n ≤ spanCells (s.descriptor d).cfg,
    s.messageText d = (List.range n).map (spanCode s (s.descriptor d).cfg) ∧
    (∀ i < n, spanCode s (s.descriptor d).cfg i ≠ 0x00#8) ∧
    (n < spanCells (s.descriptor d).cfg → spanCode s (s.descriptor d).cfg n = 0x00#8)) ∧
  (∀ (s : State) (f : FieldCfg),
    (s.measure f.measurand = none → s.fieldText f = List.replicate f.width 0x2D#8) ∧
    ∀ v, s.measure f.measurand = some v → s.fieldText f = writeNumber f.width (shownNumber f.measurand v)) ∧
  (∀ (w : Nat) (x : Int), 2 ≤ w → w ≤ 5 → (writeNumber w x).length = w ∧
    (10 ^ w ≤ x → writeNumber w x = List.replicate w 0x39#8) ∧
    (x ≤ -10 ^ (w - 1) → writeNumber w x = 0x2D#8 :: List.replicate (w - 1) 0x39#8) ∧
    (-10 ^ (w - 1) < x → x < 10 ^ w → ∃ (pad : Nat) (ds : List Byte),
      writeNumber w x = List.replicate pad 0x20#8 ++ (if x < 0 then [0x2D#8] else []) ++ ds ∧ ds ≠ [] ∧
      (∀ c ∈ ds, 0x30 ≤ c.toNat ∧ c.toNat ≤ 0x39) ∧ (ds.head? = some 0x30#8 → ds = [0x30#8]) ∧
      ds.foldl (fun n c => 10 * n + (c.toNat - 0x30)) 0 = x.natAbs)) ∧
  ∀ s : State, s.startUp = .running →
    (∀ (p : Panel) (c : Claim) (rest : List Claim), (s.displays.get p).claims = c :: rest →
      exec (.fieldReformat p) s = .next
        (if (s.displays.get p).handed = some (s.messageText c.descriptor) then s.take (.fieldReformat p)
        else { s.take (.fieldReformat p) with
          displays := s.displays.set p ⟨c :: rest, some (s.messageText c.descriptor)⟩
          told := (s.take (.fieldReformat p)).told ++ [.renderTrigger p (some
            ⟨⟨c.id, c.descriptor, c.placed⟩, s.messageText c.descriptor,
              (s.descriptor c.descriptor).cfg.flash⟩)] })) ∧
    (∀ p, (s.displays.get p).claims = [] → exec (.fieldReformat p) s = .next (s.take (.fieldReformat p))) ∧
    (∀ d, exec (.accessedMark d) s = .next { s.take (.accessedMark d) with
      store := s.store.set d { s.descriptor d with accessed := true } })

/-- The number shown for a value: tenths of a degree to whole degrees, halves away from zero; tenths of a metre per second
to km/h; new snow as it stands; a 0 is shown as 0 without a sign. What follows too: a value and its negative show numbers of
opposite sign (R95). -/
def Obligations.ShownNumbers : Prop :=
  (∀ t : Int, (0 ≤ t → shownNumber .roadTemp t = (t + 5).fdiv 10 ∧ shownNumber .airTemp t = (t + 5).fdiv 10) ∧
    (t < 0 → shownNumber .roadTemp t = -((-t + 5).fdiv 10) ∧ shownNumber .airTemp t = -((-t + 5).fdiv 10)) ∧
    shownNumber .roadTemp (-t) = -shownNumber .roadTemp t ∧
    10 * (shownNumber .airTemp t - 1) < t + 5 ∧ t - 5 < 10 * (shownNumber .airTemp t + 1)) ∧
  (∀ w : Int, shownNumber .wind w = (w * 36 + 50).fdiv 100 ∧ (0 ≤ w → 0 ≤ shownNumber .wind w)) ∧
  (∀ n : Int, shownNumber .newSnow n = n) ∧
  (∀ (m : Measurand) (x : Int) (w : Nat), 2 ≤ w → shownNumber m x = 0 →
    writeNumber w (shownNumber m x) = List.replicate (w - 1) 0x20#8 ++ [0x30#8])

/-! ## Panels -/

/-- RENDER_TRIGGER of a configured panel records the lead and, outside FAULT, begins a render whose back image starts blank;
RENDER_COMPLETE of a running render leaves the pending lead laid out in the back image, ready: the text's first line or lines,
cut at the panel's width and centred, in the rows of R100. Nothing else changes; that the back image starts blank, and that a
render may complete at any time while it runs, are the model's choices (logs 29 and 11) (R100, R101, R102, R110). -/
def Obligations.Renders : Prop :=
  (∀ (c : PanelCfg) (text first : List Byte) (more : List (List Byte)), text.splitOn 0x0A#8 = first :: more →
    (c.rows = 8 → ∃ y, layText c text = [y] ∧ LaidAt (c.columns / 6) 0 first y) ∧
    (c.rows = 16 → more = [] → ∃ y, layText c text = [y] ∧ LaidAt (c.columns / 6) 4 first y) ∧
    (∀ second rest, c.rows = 16 → more = second :: rest →
      ∃ y z, layText c text = [y, z] ∧ LaidAt (c.columns / 6) 0 first y ∧ LaidAt (c.columns / 6) 8 second z)) ∧
  ∀ (s : State) (p : Panel) (c : PanelCfg), s.startUp = .running → s.cfg.panels.get p = some c →
    (∀ lead, exec (.renderTrigger p lead) s = .next { s.take (.renderTrigger p lead) with
      panels := s.panels.set p (if (s.panels.get p).state = .fault then { s.panels.get p with pendingLead := lead }
        else { s.panels.get p with pendingLead := lead, render := .running s.clock, back := ⟨none, false, []⟩ }) }) ∧
    (∀ u, (s.panels.get p).render = .running u → exec (.renderComplete p) s = .next { s.take (.renderComplete p) with
      panels := s.panels.set p { s.panels.get p with
        render := .ready
        back := match (s.panels.get p).pendingLead with
          | some l => ⟨some l.claim, l.flash, layText c l.text⟩
          | none => ⟨none, false, []⟩ } })

/-- FRAME_START of a panel outside FAULT when no frame has started or the last row's slot has ended: a ready render is swapped,
which sets the state, reports the descriptor, and for a new claim sets the lead-shown time, restarts the flash phase and tells
the gates; a re-render of the same claim keeps the lead-shown time, the phase and its timing, and a flashing one whose period
has run changes phase as in any frame; without a ready render the images stay. The driven image of the frame is the front image
but in a BLANK phase, its first row slot takes the brightness step, and no row is sampled yet. That the back image is blank
after a swap, that the first frame may start at any time, and that a blank swap leaves the phase are the model's (logs 29, 11
and 24) (R78, R103, R104, R105, R107). -/
def Obligations.FrameStartSwaps : Prop :=
  ∀ (s : State) (p : Panel) (c : PanelCfg) (x : PanelRec), s.startUp = .running → s.cfg.panels.get p = some c →
    s.panels.get p = x → x.state ≠ .fault → (∀ u, x.frameAt = some u → u + c.rows * 1000 ≤ s.clock) →
    ∃ t y, exec (.frameStart p) s = .next t ∧ t.panels.get p = y ∧
      (x.render = .ready →
        y.front = x.back ∧ y.back = ⟨none, false, []⟩ ∧ y.render = .idle ∧
        (x.back.claim = none → y.state = .dark ∧ y.leadShown = none) ∧
        (x.back.claim ≠ none → y.state = .showing) ∧
        (x.back.claim ≠ none → x.back.claim = x.front.claim → y.leadShown = x.leadShown) ∧
        (x.back.claim ≠ none → x.back.claim ≠ x.front.claim →
          y.leadShown = some s.clock ∧ y.phase = .shown ∧ y.phaseFrom = s.clock ∧ y.phaseDue = false) ∧
        (x.back.claim ≠ none → x.back.claim = x.front.claim →
          y.leadShown = x.leadShown ∧ y.phaseFrom = x.phaseFrom ∧
          (x.back.flash = true → x.phaseDue = true → y.phase = x.phase.other ∧ y.phaseDue = false) ∧
          ((x.back.flash = false ∨ x.phaseDue = false) → y.phase = x.phase ∧ y.phaseDue = x.phaseDue)) ∧
        (x.back.claim = none → y.phase = x.phase ∧ y.phaseFrom = x.phaseFrom ∧ y.phaseDue = x.phaseDue) ∧
        t.told = (s.take (.frameStart p)).told ++
          (match x.back.claim with
            | some r => [.accessedMark r.descriptor]
            | none => []) ++ (if x.back.claim = x.front.claim then [] else [.leadStateReport p])) ∧
      (x.render ≠ .ready →
        y.front = x.front ∧ y.back = x.back ∧ y.render = x.render ∧ y.state = x.state ∧ y.leadShown = x.leadShown ∧
        y.phaseFrom = x.phaseFrom ∧
        (x.state = .showing → x.front.flash = true → x.phaseDue = true → y.phase = x.phase.other ∧ y.phaseDue = false) ∧
        ((x.state ≠ .showing ∨ x.front.flash = false ∨ x.phaseDue = false) →
          y.phase = x.phase ∧ y.phaseDue = x.phaseDue) ∧
        t.told = (s.take (.frameStart p)).told) ∧
      (y.driven = true ↔ y.state = .showing ∧ (y.front.flash = false ∨ y.phase = .shown)) ∧
      y.frameAt = some s.clock ∧ y.slotStep = x.step ∧ y.sampled = false ∧ y.step = x.step ∧ y.misses = x.misses ∧
      y.pendingLead = x.pendingLead ∧ y.cause = x.cause ∧ y.faultRow = x.faultRow ∧ (∀ q, q ≠ p → t.panels.get q = s.panels.get q) ∧
      { t with panels := s.panels, told := s.told } = s

/-- FLASH_PERIOD_EXPIRY once the period of the phase has run makes the phase due; that the next period is timed from the moment
this one ran out is the model's reading (log 24). LAMP_CHECK_SAMPLE in the on-time of an unsampled row's slot of a SHOWING panel
with a sense input: with current the row's miss count is 0, without it rises by one, and the third miss is FAULT with cause
ROW_OPEN and that row, blank images and no lead-shown time; a row that is not driven or has no lit pixel is passed over (R107,
R108, R109). -/
def Obligations.FlashAndLampCheck : Prop :=
  ∀ (s : State) (p : Panel) (c : PanelCfg) (x : PanelRec), s.startUp = .running → s.cfg.panels.get p = some c →
    s.panels.get p = x → x.state = .showing →
    (∀ (j : Nat) (b : BrightnessStep), c.steps[j]? = some b → onTime c j = b.onTime) ∧
    (x.front.flash = true → x.phaseDue = false →
      x.phaseFrom + (if x.phase = .shown then c.flashOn else c.flashOff) * 100000 ≤ s.clock →
      exec (.flashPeriodExpiry p) s = .next { s.take (.flashPeriodExpiry p) with
        panels := s.panels.set p { x with
          phaseDue := true
          phaseFrom := x.phaseFrom + (if x.phase = .shown then c.flashOn else c.flashOff) * 100000 } }) ∧
    (∀ (current : Bool) (u row : Nat), s.sense p = some current → x.sampled = false → x.frameAt = some u →
      s.clock - u < c.rows * 1000 → row = (s.clock - u) / 1000 → (s.clock - u) % 1000 < onTime c x.slotStep →
      exec (.lampCheckSample p) s = .next
        (if x.driven = false ∨ x.front.rowLit c.columns row = false then
          { s.take (.lampCheckSample p) with panels := s.panels.set p { x with sampled := true } }
        else if current = true then
          { s.take (.lampCheckSample p) with
            panels := s.panels.set p { x with sampled := true, misses := x.misses.set row 0 } }
        else if x.misses.getD row 0 < 2 then
          { s.take (.lampCheckSample p) with
            panels := s.panels.set p { x with
              sampled := true, misses := x.misses.set row (x.misses.getD row 0 + 1) } }
        else
          { s.take (.lampCheckSample p) with
            panels := s.panels.set p { x with
              sampled := true, misses := x.misses.set row (x.misses.getD row 0 + 1), state := .fault,
              cause := some .rowOpen, faultRow := some row, front := ⟨none, false, []⟩, back := ⟨none, false, []⟩,
              render := .idle, leadShown := none, driven := false }
            told := (s.take (.lampCheckSample p)).told ++ [.leadStateReport p, .latchSetRequest (.panelFault p)] }))

/-- BRIGHTNESS_EVALUATION moves a configured panel up to the highest step whose threshold the light has reached, if that is
above its step; otherwise down, step by step, while the light is below the falling point of the step, which is the greater of
1 and the threshold less the band. Nothing else changes (R106). -/
def Obligations.BrightnessSteps : Prop :=
  ∀ (s : State) (p : Panel) (c : PanelCfg) (light : Int) (old : Nat), s.startUp = .running →
    s.cfg.panels.get p = some c → (s.panels.get p).step = old → old ≤ 7 →
    (∀ (j : Nat) (b : BrightnessStep), c.steps[j]? = some b → threshold c j = b.threshold) ∧
    ∃ k, exec (.brightnessEvaluation p light) s = .next { s.take (.brightnessEvaluation p light) with
        panels := s.panels.set p { s.panels.get p with step := k } } ∧
      ((∃ j, old < j ∧ j ≤ 7 ∧ (threshold c j : Int) ≤ light) →
        old < k ∧ k ≤ 7 ∧ (threshold c k : Int) ≤ light ∧ ∀ j, k < j → j ≤ 7 → light < (threshold c j : Int)) ∧
      ((∀ j, old < j → j ≤ 7 → light < (threshold c j : Int)) →
        k ≤ old ∧ (0 < k → (max 1 (threshold c k - c.band) : Nat) ≤ light) ∧
        ∀ j, k < j → j ≤ old → light < (max 1 (threshold c j - c.band) : Nat))

/-! ## Sensors and hazard levels -/

/-- SCAN_START at a scan time starts a scan, the next one scan period later. SCAN_COMPLETE of a running scan: each role with one
entry takes its raw value, a faulted one raising the fault count and at 60 making the role FAILED, a good one calibrated,
clamped and filtered; a NONE entry keeps its raw value; the latches of roles that have become FAILED are asked for, the leads
with a field that has changed are formatted afresh, and the panels told of a valid LIGHT value. SLIDE_PULSE raises the running
count up to 255. HOURLY_APPEND at an hour boundary puts the hour record at the end of the ring of 24, starts the count afresh,
and answers what HAZARD_COMPUTATION answers in that state: the computation is made at once, the count being 0. That it is part
of the append's command is the model's reading (log 40). The raw values come with the command, and that one it leaves out is 0,
a faulted one, is the model's choice (log 10) (R94, R106, R114 to R125, R131, R135). -/
def Obligations.SensorEvents : Prop :=
  (roleRange .roadTemp = (-500, 500) ∧ roleRange .airTemp = (-500, 500) ∧ roleRange .wind = (0, 600) ∧
    roleRange .snowDepth = (0, 800) ∧ roleRange .light = (0, 1023)) ∧
  ∀ s : State, s.startUp = .running →
    (∀ u, s.cfg.scanList ≠ [] → s.acq.nextScan = some u → u ≤ s.clock →
      exec .scanStart s = .next { s.take .scanStart with
        acq := { s.acq with scan := some s.clock, nextScan := some (u + s.cfg.scanPeriod * 1000000) } }) ∧
    (∀ (raws : List Raw) (u : Nat), s.acq.scan = some u →
      u + (s.cfg.scanList.map fun e => (e.sampling + 1) * 2 + 8).sum ≤ s.clock →
      ∃ t, exec (.scanComplete raws) s = .next t ∧
        (∀ (i : Nat) (e : ScanEntry) (r : Role) (raw : Nat) (x : RoleRec), s.cfg.scanList[i]? = some e →
          e.role = some r → (∀ j e', s.cfg.scanList[j]? = some e' → e'.role = some r → j = i) →
          raw = (raws.getD i 0#12).toNat → s.acq.roles.get r = x →
          ((raw ≤ 8 ∨ 4087 ≤ raw) → x.faults < 59 →
            t.acq.roles.get r = { x with raw := some raw, faults := x.faults + 1 }) ∧
          ((raw ≤ 8 ∨ 4087 ≤ raw) → 59 ≤ x.faults → x.validity = .valid →
            t.acq.roles.get r = { x with
              raw := some raw, faults := 60, validity := .failed, invalidSince := some s.clock } ∧
            .latchSetRequest (.sensorInvalid r) ∈ t.told) ∧
          ((raw ≤ 8 ∨ 4087 ≤ raw) → 59 ≤ x.faults → x.validity = .unmeasured →
            t.acq.roles.get r = { x with raw := some raw, faults := 60, validity := .failed } ∧
            .latchSetRequest (.sensorInvalid r) ∈ t.told) ∧
          ((raw ≤ 8 ∨ 4087 ≤ raw) → 59 ≤ x.faults → x.validity = .failed →
            t.acq.roles.get r = { x with raw := some raw, faults := 60 }) ∧
          (8 < raw → raw < 4087 → ∃ v : Int,
            v = max (roleRange r).1
              (min (roleRange r).2 ((((raw : Int) - (e.offset : Int)) * e.gain).fdiv 1024 + e.base)) ∧
            t.acq.roles.get r = ⟨.valid, some (match x.validity, x.filtered with
              | .valid, some a => a + (v - a).fdiv (2 ^ e.shift)
              | _, _ => v), some raw, 0, none⟩)) ∧
        (∀ (i : Nat) (e : ScanEntry), s.cfg.scanList[i]? = some e → e.role = none → i < s.acq.spare.length →
          t.acq.spare[i]? = some (some (raws.getD i 0#12).toNat)) ∧
        (∀ r, (∀ e ∈ s.cfg.scanList, e.role ≠ some r) → t.acq.roles.get r = s.acq.roles.get r) ∧
        t.acq = { s.acq with scan := none, roles := t.acq.roles, spare := t.acq.spare } ∧
        t.told = (s.take (.scanComplete raws)).told ++ scanTells s t ∧
        { t with acq := s.acq, told := s.told } = s) ∧
    (∀ x, s.inputOf .slidePulse = some x → x.cfg.edges ≠ .none → exec .slidePulse s = .next { s.take .slidePulse with
      acq := { s.acq with running := min 255 (s.acq.running + 1) } }) ∧
    (s.atHour = true → (∀ x ∈ s.acq.ring, x.hour < s.hour) → ∃ t u : State, exec .hourlyAppend s = .next t ∧
      u = { s.take .hourlyAppend with
        acq := { s.acq with
          ring := (if 24 ≤ s.acq.ring.length then s.acq.ring.drop 1 else s.acq.ring) ++
            [⟨s.hour, s.validValue .snowDepth, s.validValue .airTemp, s.acq.running⟩]
          running := 0 } } ∧
      { t with hazard := s.hazard, told := u.told } = u ∧
      exec .hazardComputation { u with told := .hazardComputation :: u.told } = .next t)

/-- HAZARD_COMPUTATION at a minute boundary, with no change report waiting and the 4 path records in place, which every step
keeps (O59): the inputs from the role records, the ring and the count, for each configured path its terms and index, the
degraded mark, set while an input that it weighs has been invalid for 60 minutes, and the level: up at once to the one reached,
or to WATCH while degraded; down one level once the index has stood below the falling point, the greater of 1 and the threshold
less the band, for the hold, with the ring full enough and no degraded floor; the effective level is the higher of that and what
present peers report, and the Claim Unit is told of new snow or an effective level that has changed. An issue, or the lift that
R146 or R147 chooses, is asked for; that the lift among three or more tagged records is chosen as between two, and that a pair
is one which the table holds at the computation, are the model's choices (logs 38 and 47). The issue pending mark clears where
no issue is wanted, an outstanding request leaving it (log 20). A waiting report is read first (log 35). Paths not configured
stay (R131 to R142, R144 to R148). -/
def Obligations.HazardComputation : Prop :=
  (∀ s : State, s.startUp = .running → s.atMinute = true → (∀ r, .noticeChangeReport r ∉ s.told) → PathsSound s →
    ∃ t n w d a, exec .hazardComputation s = .next t ∧ t.hazard.newSnow = n ∧
      (∀ v, s.acq.roles.snowDepth.validity = .valid → s.acq.roles.snowDepth.filtered = some v →
        ((∀ h ∈ s.acq.ring, h.depth = none) → n = 0) ∧
        ∀ m, (∃ h ∈ s.acq.ring, h.depth = some m) → (∀ h ∈ s.acq.ring, ∀ m', h.depth = some m' → m ≤ m') →
          (n : Int) = max 0 (min 200 (v - m))) ∧
      (s.acq.roles.snowDepth.validity ≠ .valid → n = s.hazard.newSnow) ∧
      (∀ v, (s.acq.roles.wind.validity = .valid ∨ s.acq.roles.wind.validity = .failed) →
        s.acq.roles.wind.filtered = some v → (w : Int) = max 0 (min 400 (v - 80))) ∧
      ((s.acq.roles.wind.filtered = none ∨ s.acq.roles.wind.validity = .unmeasured ∨
        s.acq.roles.wind.validity = .notConfigured) → w = 0) ∧
      (∀ v x u, s.acq.roles.airTemp.validity = .valid → s.acq.roles.airTemp.filtered = some v →
        s.acq.ring.find? (fun h => h.hour + 6 = s.clock / 3600000000) = some x → x.air = some u →
        (d : Int) = max 0 (min 200 (v - u))) ∧
      ((s.acq.roles.airTemp.validity ≠ .valid ∨
        ∀ x, s.acq.ring.find? (fun h => h.hour + 6 = s.clock / 3600000000) = some x → x.air = none) → d = 0) ∧
      a = min 255 (((s.acq.ring.reverse.take 3).map (·.activity)).sum + s.acq.running) ∧
      (∀ (i : Nat) (c : PathCfg) (x : PathRec), s.cfg.paths[i]? = some c → s.hazard.paths[i]? = some x →
        ∃ y called, t.hazard.paths[i]? = some y ∧
          y.snow = n ∧ y.windExcess = w ∧ y.warming = d ∧ y.activity = a ∧
          y.termN = c.wN * n ∧ y.termW = c.wW * w / 16 ∧ y.termT = c.wT * d / 8 ∧
          y.termA = c.wA * a ∧ y.index = min 1000 (y.termN + y.termW + y.termT + y.termA) ∧
          (y.degraded = true ↔ (c.wN ≠ 0 ∧ s.longInvalid .snowDepth = true) ∨
            (c.wW ≠ 0 ∧ s.longInvalid .wind = true) ∨ (c.wT ≠ 0 ∧ s.longInvalid .airTemp = true)) ∧
          called = (if c.tC ≤ y.index then .close else if c.tR ≤ y.index then .warn
            else if c.tW ≤ y.index ∨ y.degraded = true then .watch else .quiet) ∧
          (x.level.rank < Level.rank called → y.level = called ∧ y.holdStart = none) ∧
          (Level.rank called ≤ x.level.rank → (∀ f, fallingPoint c x.level = some f → f ≤ y.index) →
            y.level = x.level ∧ y.holdStart = none) ∧
          (Level.rank called ≤ x.level.rank → ∀ f, fallingPoint c x.level = some f → y.index < f →
            if x.holdStart.getD s.minute + c.hold ≤ s.minute ∧ 6 ≤ s.acq.ring.length ∧
              ¬(y.degraded = true ∧ x.level = .watch)
            then y.level.rank + 1 = x.level.rank ∧ y.holdStart = some s.minute
            else y.level = x.level ∧ y.holdStart = some (x.holdStart.getD s.minute)) ∧
          y.inhibited = (x.inhibited && decide (y.level = .warn ∨ y.level = .close)) ∧
          y.effective = Level.max y.level (s.reportedLevel c.number) ∧ y.issuedKey = x.issuedKey ∧
          (i < 4 → TableSound s → ∃ wants lifts : Prop,
            (wants ↔ y.level = .close ∧ c.action ≠ .none ∧ y.inhibited = false ∧ s.settling = false ∧
              ∀ m, ¬Tagged s i m) ∧
            (lifts ↔ s.settling = false ∧ (∃ m, Tagged s i m ∧ m.level = 3) ∧
              (y.level ≠ .close ∨ ∃ m m', Tagged s i m ∧ Tagged s i m' ∧ m.key ≠ m'.key)) ∧
            (wants → y.issuePending = x.issuePending) ∧ (¬wants → y.issuePending = false) ∧
            (wants → x.request = .none → y.request = .issue ∧ .automaticIssue i ∈ t.told) ∧
            (lifts → x.request = .none → .automaticLift i ∈ t.told ∧
              ∃ m, Tagged s i m ∧ m.level = 3 ∧ y.request = .lift m.key ∧
                ((∃ m', Tagged s i m' ∧ m'.level = 3 ∧ x.issuedKey ≠ some m'.key) →
                  x.issuedKey ≠ some m.key ∧ ∀ m', Tagged s i m' → m'.level = 3 → x.issuedKey ≠ some m'.key →
                    m.number ≤ m'.number)) ∧
            (x.request ≠ .none ∨ (¬wants ∧ ¬lifts) → y.request = x.request))) ∧
      (∀ (i : Nat) (x : PathRec), s.cfg.paths[i]? = none → s.hazard.paths[i]? = some x →
        t.hazard.paths[i]? = some x) ∧
      (n ≠ s.hazard.newSnow → ∀ (p : Panel) (c : Claim) (rest : List Claim) (f : FieldCfg),
        (s.displays.get p).claims = c :: rest → (s.descriptor c.descriptor).cfg.field = some f → f.measurand = .newSnow →
        .fieldReformat p ∈ t.told) ∧
      ((∃ r ∈ pathOrder, t.effectiveOf r ≠ s.effectiveOf r) → .hazardClaim ∈ t.told) ∧
      (∀ m ∈ t.told, m ∈ (s.take .hazardComputation).told ∨
        (m = .hazardClaim ∧ ∃ r ∈ pathOrder, t.effectiveOf r ≠ s.effectiveOf r) ∨
        (∃ p c rest f, m = .fieldReformat p ∧ (s.displays.get p).claims = c :: rest ∧
          (s.descriptor c.descriptor).cfg.field = some f ∧ f.measurand = .newSnow ∧ n ≠ s.hazard.newSnow) ∨
        ∃ (i : Nat) (x y : PathRec), s.hazard.paths[i]? = some x ∧ t.hazard.paths[i]? = some y ∧ x.request = .none ∧
          ((m = .automaticIssue i ∧ y.request = .issue) ∨ (m = .automaticLift i ∧ ∃ k, y.request = .lift k))) ∧
      { t with hazard := s.hazard, told := s.told } = s) ∧
  (∀ c : PathCfg, fallingPoint c .quiet = none ∧ fallingPoint c .watch = some (max 1 (c.tW - c.band)) ∧
    fallingPoint c .warn = some (max 1 (c.tR - c.band)) ∧ fallingPoint c .close = some (max 1 (c.tC - c.band))) ∧
  (∀ (s : State) (r : Role), s.longInvalid r = true ↔
    (s.acq.roles.get r).validity ≠ .valid ∧
      ((∀ u, (s.acq.roles.get r).invalidSince = some u → u + 3600000000 ≤ s.clock) ∧
        ((s.acq.roles.get r).invalidSince = none → 3600000000 ≤ s.clock))) ∧
  (∀ (s u : State) (r : ChangeReport) (before after : List Instr), s.startUp = .running → s.atMinute = true →
    s.told = before ++ .noticeChangeReport r :: after → (∀ r', .noticeChangeReport r' ∉ before) →
    exec (.noticeChangeReport r) s = .next u → exec .hazardComputation s = exec .hazardComputation u)

/-- AUTOMATIC_ISSUE of a path whose request is outstanding: the notice of R144 is stored, in the lowest free slot or that of
the record R9 evicts, at level 3 with the path's tag and the first number at or after the counter that no own record uses, an
evicted one's counting as used (the model's choice, log 27); its ORIGINATED frame is handed to the queue, the transmitter
following, and its key becomes the issued key; with no room it is refused, the issue pending mark is set and the latch asked
for. AUTOMATIC_LIFT of a record that is still IN_FORCE at level 3 lifts it; one that is not held, not IN_FORCE or not at level
3 is left as it is. Either answer ends the request. A record issued, evicted or lifted is reported to the Hazard Unit where it
is an own tagged one, then the fitted gates are told where the map has changed, and the Claim Unit (R9, R17, R18, R21, R22,
R24, R25, R29, R31, R144, R145, R146, R167, R169). -/
def Obligations.AutomaticNotices : Prop :=
  ∀ (s : State) (p : Nat) (c : PathCfg) (x : PathRec), s.startUp = .running → s.cfg.paths[p]? = some c →
    s.hazard.paths[p]? = some x →
    (∀ (k : NoticeKind) (i : Nat) (old : Option NoticeRecord), TableSound s → x.request = .issue →
      (c.action = .convoy ∧ k = .convoy ∨ c.action = .fullClosure ∧ k = .fullClosure) →
      Room s.engine.table [] i old →
      ∃ t r n refused, exec (.automaticIssue p) s = .next t ∧
        r = ⟨⟨s.cfg.station, n, 0, s.cfg.station, .inForce, k, .avalanche, 3, c.firstSec, c.lastSec, c.message, some p⟩,
          none, s.minute, s.cfg.issueBudget, s.minute, refused, none⟩ ∧
        recordAt t.engine.table i = some r ∧ (∀ m, m ≠ i → t.engine.table[m]? = s.engine.table[m]?) ∧
        FirstFree (numbersOf s.engine.table s.cfg.station) s.engine.nextNumber n ∧
        t.engine.nextNumber = (n + 1) % 256 ∧
        t.engine.map = sectionMap t.engine.table ∧ CatchUpFollows (evictedKeys old) s t ∧
        t.told = (s.take (.automaticIssue p)).told ++ changeTells s (old.map (·.notice)) none .eviction ++
          changeTells s none (some r.notice) .hazardOwn ++ mapTells s t ∧
        LineTakes (evictedKeys old) ⟨s.cfg.station, n⟩ (frameFor s r .originated s.cfg.issueBudget) refused s.line t.line ∧
        t.hazard = { s.hazard with
          paths := s.hazard.paths.set p
            { x with request := .none, issuedKey := some ⟨s.cfg.station, n⟩, issuePending := false } } ∧
        { t with engine := s.engine, line := s.line, hazard := s.hazard, told := s.told } = s) ∧
    (x.request = .issue → c.action ≠ .none → NoRoom s.engine.table [] →
      exec (.automaticIssue p) s = .next { s.take (.automaticIssue p) with
        hazard := { s.hazard with paths := s.hazard.paths.set p { x with request := .none, issuePending := true } }
        told := (s.take (.automaticIssue p)).told ++ [.latchSetRequest .autoNoticeRefused] }) ∧
    (∀ (k : NoticeKey) (i : Nat) (r : NoticeRecord), x.request = .lift k → slotOf s.engine.table k = some i →
      recordAt s.engine.table i = some r → r.notice.state = .inForce → r.notice.level = 3 →
      ∃ t r' refused, exec (.automaticLift p) s = .next t ∧
        r' = ⟨{ r.notice with version := r.notice.version + 1, amender := s.cfg.station, state := .lifted }, none, s.minute,
          s.cfg.issueBudget, s.minute, r.early || refused, some s.minute⟩ ∧
        recordAt t.engine.table i = some r' ∧ (∀ m, m ≠ i → t.engine.table[m]? = s.engine.table[m]?) ∧
        t.engine.map = sectionMap t.engine.table ∧ t.engine.nextNumber = s.engine.nextNumber ∧ CatchUpFollows [] s t ∧
        t.told = (s.take (.automaticLift p)).told ++ changeTells s (some r.notice) (some r'.notice) .hazardOwn ++
          mapTells s t ∧
        LineTakes [] r.notice.key (frameFor s r' .originated s.cfg.issueBudget) refused s.line t.line ∧
        t.hazard = { s.hazard with paths := s.hazard.paths.set p { x with request := .none } } ∧
        { t with engine := s.engine, line := s.line, hazard := s.hazard, told := s.told } = s) ∧
    (∀ k : NoticeKey, x.request = .lift k →
      (slotOf s.engine.table k = none ∨
        ∃ i r, slotOf s.engine.table k = some i ∧ recordAt s.engine.table i = some r ∧
          (r.notice.state ≠ .inForce ∨ r.notice.level ≠ 3)) →
      exec (.automaticLift p) s = .next { s.take (.automaticLift p) with
        hazard := { s.hazard with paths := s.hazard.paths.set p { x with request := .none } } })

/-- NOTICE_CHANGE_REPORT for a configured path: a tagged record taken off the road by another than the Hazard Unit's own lift
while the path is at CLOSE sets its inhibit; a tagged record learned from a frame IN_FORCE at level 3 makes the path's level
CLOSE where the station is settling when the report is read, that moment being the model's choice (log 41), and leaves a path
that is at CLOSE already as it is. Every other report is taken as read and changes nothing: that of the Hazard Unit's own lift,
of a tombstone, of an adopted notice, of a path below CLOSE whose notice leaves the road, and one whose tag names no configured
path. EFFECTIVE_LEVEL_RECOMPUTE gives each configured path the highest of its own level and what present peers report for its
number, and tells the Claim Unit exactly where a level has changed (R142, R143, R147, R148, R149). -/
def Obligations.ReportsAndEffectiveLevels : Prop :=
  ∀ s : State, s.startUp = .running →
    (∀ (r : ChangeReport) (x : PathRec), r.tag < s.cfg.paths.length → s.hazard.paths[r.tag]? = some x →
      (r.before = some .inForce → (∀ l, r.after ≠ some (.inForce, l)) → r.cause ≠ .hazardOwn → x.level = .close →
        exec (.noticeChangeReport r) s = .next { s.take (.noticeChangeReport r) with
          hazard := { s.hazard with paths := s.hazard.paths.set r.tag { x with inhibited := true } } }) ∧
      (r.cause = .received → r.after = some (.inForce, 3) → s.settling = true → x.level ≠ .close →
        ∃ t y, exec (.noticeChangeReport r) s = .next t ∧ t.hazard.paths[r.tag]? = some y ∧ y.level = .close ∧
          y.effective = .close ∧ y.holdStart = none ∧
          ((∃ r ∈ pathOrder, t.effectiveOf r ≠ s.effectiveOf r) →
            t.told = (s.take (.noticeChangeReport r)).told ++ [.hazardClaim]) ∧
          ((∀ r ∈ pathOrder, t.effectiveOf r = s.effectiveOf r) → t.told = (s.take (.noticeChangeReport r)).told) ∧
          { y with level := x.level, holdStart := x.holdStart, effective := x.effective } = x ∧
          { t with hazard := s.hazard, told := s.told } = s) ∧
      ((r.before ≠ some .inForce ∨ (∃ l, r.after = some (.inForce, l)) ∨ r.cause = .hazardOwn ∨ x.level ≠ .close) →
        (r.cause ≠ .received ∨ r.after ≠ some (.inForce, 3) ∨ s.settling = false ∨ x.level = .close) →
        exec (.noticeChangeReport r) s = .next (s.take (.noticeChangeReport r)))) ∧
    (∀ r : ChangeReport, s.cfg.paths.length ≤ r.tag →
      exec (.noticeChangeReport r) s = .next (s.take (.noticeChangeReport r))) ∧
    (∃ t, exec .effectiveLevelRecompute s = .next t ∧
      (∀ (i : Nat) (c : PathCfg) (x : PathRec), s.cfg.paths[i]? = some c → s.hazard.paths[i]? = some x →
        t.hazard.paths[i]? = some { x with effective := Level.max x.level (s.reportedLevel c.number) }) ∧
      (∀ (i : Nat) (c : RemoteCfg) (l : Level), s.cfg.remotes[i]? = some c → s.hazard.remotes[i]? = some l →
        t.hazard.remotes[i]? = some (s.reportedLevel c.number)) ∧
      ((∃ r ∈ pathOrder, t.effectiveOf r ≠ s.effectiveOf r) →
        t.told = (s.take .effectiveLevelRecompute).told ++ [.hazardClaim]) ∧
      ((∀ r ∈ pathOrder, t.effectiveOf r = s.effectiveOf r) → t.told = (s.take .effectiveLevelRecompute).told) ∧
      t.hazard.newSnow = s.hazard.newSnow ∧ { t with hazard := s.hazard, told := s.told } = s) ∧
    (∀ n : Nat,
      (s.reportedLevel n = .quiet ∨ ∃ x ∈ s.bulletin.peers.filterMap id, x.present = true ∧
        ∃ r ∈ x.bulletin.paths, r.number = n ∧ r.level = s.reportedLevel n) ∧
      ∀ x ∈ s.bulletin.peers.filterMap id, x.present = true → ∀ r ∈ x.bulletin.paths, r.number = n →
        r.level.rank ≤ (s.reportedLevel n).rank)

/-! ## Bulletins -/

/-- BULLETIN_TIME when its time has come: the next is one period later, and the bulletin of the state as it stands joins the
queue at its end, replaces a waiting bulletin in its place, or is discarded while a bulletin is being sent or 12 frames are
held; its flags, weather values, path and gate reports are those of R152, a role with an entry being one that is not
NOT_CONFIGURED; the level of a re-adopted path in it is the model's choice (log 32). PERIOD_BOUNDARY of an entry whose next
period has run raises its periods missed; at three it is stale, at ten it is freed, and in the same change the effective levels
are worked out without it and the GATE_AHEAD claims that name its sender are withdrawn (log 36), all other claims staying; the
Claim Unit is told of a changed level, and the Panel Drivers of changed leads (R83, R93, R142, R143, R151, R152, R153, R157,
R159, R167). -/
def Obligations.BulletinTimes : Prop :=
  ∀ s : State, s.startUp = .running →
    (∀ u, s.bulletin.nextAt = some u → u ≤ s.clock → ∃ t f, exec .bulletinTime s = .next t ∧
      t.bulletin = { s.bulletin with nextAt := some (u + s.cfg.bulletinPeriod * 1000000) } ∧
      f = ⟨.bulletin s.buildBulletin, 0, 0, s.cfg.station % 16⟩ ∧
      s.buildBulletin.home = s.cfg.home ∧ s.buildBulletin.settling = s.settling ∧
      s.buildBulletin.inForce = (inForce s.engine.table).length ∧
      (s.buildBulletin.degraded = true ↔
        (∃ r, (s.acq.roles.get r).validity = .unmeasured ∨ (s.acq.roles.get r).validity = .failed) ∨
        ∃ (i : Nat) (x : PathRec), i < s.cfg.paths.length ∧ s.hazard.paths[i]? = some x ∧ x.degraded = true) ∧
      (s.buildBulletin.panelFault = true ↔
        ∃ p c, s.cfg.panels.get p = some c ∧ (s.panels.get p).state = .fault) ∧
      (s.buildBulletin.gateFault = true ↔ ∃ g c, s.cfg.gates.get g = some c ∧ (s.gates.get g).state = .fault) ∧
      (∀ v, s.buildBulletin.road = some v ↔
        s.acq.roles.roadTemp.validity = .valid ∧ s.acq.roles.roadTemp.filtered = some v) ∧
      (∀ v, s.buildBulletin.air = some v ↔
        s.acq.roles.airTemp.validity = .valid ∧ s.acq.roles.airTemp.filtered = some v) ∧
      (∀ v, s.buildBulletin.wind = some v ↔ s.acq.roles.wind.validity = .valid ∧ s.acq.roles.wind.filtered = some v) ∧
      (∀ v, s.buildBulletin.snow = some v ↔ s.acq.roles.snowDepth.validity = .valid ∧ v = s.hazard.newSnow) ∧
      s.buildBulletin.paths = s.cfg.paths.zipIdx.map (fun x => ⟨x.1.number, (s.path x.2).level, (s.path x.2).index⟩) ∧
      (∀ g c, s.cfg.gates.get g = some c →
        ⟨g, c.guarded, c.entry, (s.gates.get g).state⟩ ∈ s.buildBulletin.gates) ∧
      s.buildBulletin.gates = ([GateId.g0, .g1].filterMap fun g => (s.cfg.gates.get g).map fun c =>
        ⟨g, c.guarded, c.entry, (s.gates.get g).state⟩) ∧
      (s.line.waiting.any Frame.isBulletin = true →
        t.line.waiting = s.line.waiting.map fun g => if g.isBulletin then f else g) ∧
      (s.line.waiting.any Frame.isBulletin = false → s.line.started.any Frame.isBulletin = false → s.line.size < 12 →
        t.line.waiting = s.line.waiting ++ [f]) ∧
      (s.line.waiting.any Frame.isBulletin = false →
        (s.line.started.any Frame.isBulletin = true ∨ 12 ≤ s.line.size) → t.line = s.line) ∧
      TxFollows [] (s.line.waiting.head?.any Frame.isBulletin) s.line t.line ∧
      { t.line with waiting := s.line.waiting, tx := s.line.tx } = s.line ∧
      { t with bulletin := s.bulletin, line := s.line } = s.take .bulletinTime) ∧
    (∀ (i : Nat) (x : Peer), s.bulletin.peers[i]? = some (some x) →
      x.received + (x.missed + 1) * (s.cfg.bulletinPeriod * 1000000) ≤ s.clock →
      ∃ t, exec (.periodBoundary i) s = .next t ∧
        t.bulletin = { s.bulletin with
          peers := s.bulletin.peers.set i
            (if 9 ≤ x.missed then none
            else some { x with missed := x.missed + 1, present := x.present && decide (x.missed < 2) }) } ∧
        ((x.missed ≠ 2 ∧ x.missed < 9) → { t with bulletin := s.bulletin } = s.take (.periodBoundary i)) ∧
        ((x.missed = 2 ∨ 9 ≤ x.missed) →
          (∀ (j : Nat) (c : PathCfg) (y : PathRec), s.cfg.paths[j]? = some c → s.hazard.paths[j]? = some y →
            t.hazard.paths[j]? = some { y with effective := Level.max y.level (t.reportedLevel c.number) }) ∧
          (∀ (j : Nat) (c : RemoteCfg) (l : Level), s.cfg.remotes[j]? = some c → s.hazard.remotes[j]? = some l →
            t.hazard.remotes[j]? = some (t.reportedLevel c.number)) ∧
          (∃ asks : List Instr, ((∃ r ∈ pathOrder, t.effectiveOf r ≠ s.effectiveOf r) → asks = [.hazardClaim]) ∧
            ((∀ r ∈ pathOrder, t.effectiveOf r = s.effectiveOf r) → asks = []) ∧
            LeadsTold s t ((s.take (.periodBoundary i)).told ++ asks)) ∧
          (∀ (p : Panel) (c : PanelCfg) (a : GateAheadCfg), s.cfg.panels.get p = some c → c.gateAhead = some a →
            a.station = x.sender →
            SameBut [.gateAhead] (s.displays.get p).claims (t.displays.get p).claims ∧
            (PeersSound s → Absent (t.displays.get p).claims .gateAhead)) ∧
          (∀ p, (∀ c a, s.cfg.panels.get p = some c → c.gateAhead = some a → a.station ≠ x.sender) →
            t.displays.get p = s.displays.get p) ∧
          t.hazard.newSnow = s.hazard.newSnow ∧
          { t with bulletin := s.bulletin, hazard := s.hazard, displays := s.displays, told := s.told } = s))

/-- BULLETIN_FRAME_TAKEN with a good body: it replaces what the sender's entry held; a new sender takes the lowest free entry,
or with none free the stale entry received earliest, whose sender is told of too; with 16 present peers it is discarded and
counted. The entry is present with no period missed from now, the blocks that read the table are told, and SETTLING asks for
catch-up but where a present entry had it set already (R155, R156, R158, R159). -/
def Obligations.BulletinFrameTaken : Prop :=
  ∀ (s : State) (f : RxFrame) (rest : List RxFrame) (b : Bulletin), s.startUp = .running →
    s.line.bulletinInbox = f :: rest → decodeBulletin f.body = some b → 1 ≤ f.sender → f.sender ≤ 60 →
    ∃ t, exec .bulletinFrameTaken s = .next t ∧ t.line = { s.line with bulletinInbox := rest } ∧
      (∀ (i : Nat) (old : Peer), entryOf s.bulletin.peers f.sender = some i →
        s.bulletin.peers[i]? = some (some old) →
        t.bulletin = { s.bulletin with peers := s.bulletin.peers.set i (some ⟨f.sender, b, s.clock, 0, true⟩) } ∧
        t.told = (s.take .bulletinFrameTaken).told ++ [.effectiveLevelRecompute, .gateAheadClaim f.sender] ++
          (if b.settling = true ∧ (old.bulletin.settling = false ∨ old.present = false) then [.catchUp] else [])) ∧
      (∀ i, entryOf s.bulletin.peers f.sender = none → s.bulletin.peers.findIdx? Option.isNone = some i →
        t.bulletin = { s.bulletin with peers := s.bulletin.peers.set i (some ⟨f.sender, b, s.clock, 0, true⟩) } ∧
        t.told = (s.take .bulletinFrameTaken).told ++ [.effectiveLevelRecompute, .gateAheadClaim f.sender] ++
          (if b.settling = true then [.catchUp] else [])) ∧
      (∀ (i : Nat) (old : Peer), entryOf s.bulletin.peers f.sender = none →
        s.bulletin.peers.findIdx? Option.isNone = none → s.bulletin.peers[i]? = some (some old) →
        old.present = false →
        (∀ j x, s.bulletin.peers[j]? = some (some x) → x.present = false →
          old.received < x.received ∨ (old.received = x.received ∧ i ≤ j)) →
        t.bulletin = { s.bulletin with peers := s.bulletin.peers.set i (some ⟨f.sender, b, s.clock, 0, true⟩) } ∧
        t.told = (s.take .bulletinFrameTaken).told ++ [.effectiveLevelRecompute, .gateAheadClaim old.sender] ++
          [.effectiveLevelRecompute, .gateAheadClaim f.sender] ++ (if b.settling = true then [.catchUp] else [])) ∧
      (entryOf s.bulletin.peers f.sender = none →
        (∀ x ∈ s.bulletin.peers, ∃ y, x = some y ∧ y.present = true) →
        t.bulletin = { s.bulletin with tableFull := min 65535 (s.bulletin.tableFull + 1) } ∧
        t.told = (s.take .bulletinFrameTaken).told) ∧
      { t with line := s.line, bulletin := s.bulletin, told := s.told } = s

/-! ## The pass line -/

/-- A character that arrives with the transmitter not SENDING ends the quiet time and is taken by the receiver: HUNT waits for
0x5A then 0xC3, HEADER checks its four characters, CHECK its two; a framing error counts the frame as truncated, a wrong header
or check as a CRC error. More than 40 quiet bit-times inside a frame discard it as truncated, at RECEIVE_GAP_TIMEOUT or before
the next character or LINE_BUSY is taken where that message still waits, which is the model's reading (log 13); one not yet due
changes nothing (log 3). A good frame of this station's own number asks for the latch; another is counted and
placed in the inbox of its kind, or dropped where that is full. While SENDING the character is the readback, the last of several
being the model's choice, as is the next character after any quiet time following at once in HUNT (logs 33 and 34), and that the
receiver takes a character which is over once SENDING is, though it began in it (log 44). LINE_BUSY
starts the gap count again (R162, R164, R165, R169, R170). -/
def Obligations.LineReceives : Prop :=
  ∀ s : State, s.startUp = .running →
    (∀ (c : Byte) (fe : Bool) (x : Sending), s.line.tx = .sending x → exec (.lineCharacterReceived c fe) s = .next
      { s with line := { s.line with rxBusy := 0, rxGap := 0, tx := .sending { x with readback := some (c, fe) } } }) ∧
    (s.line.started = none → s.line.rx.inFrame = true → 40000000 < s.line.rxGap →
      ∀ u, u = { s with line := { s.line with
          rx := .hunt false
          counters := { s.line.counters with truncated := min 65535 (s.line.counters.truncated + 1) } } } →
        (∀ c fe, exec (.lineCharacterReceived c fe) s = exec (.lineCharacterReceived c fe) u) ∧
        exec .lineBusy s = exec .lineBusy u) ∧
    (∀ (c : Byte) (fe : Bool) (l : Line) (u : State), s.line.started = none →
      (s.line.rx.inFrame = true → s.line.rxGap ≤ 40000000) →
      l = { s.line with
        rxBusy := 0, rxGap := 0, tx := if s.line.tx = .idle then .idle else .waitGap 0 } → u = { s with line := l } →
      (∀ synced, s.line.rx = .hunt synced → exec (.lineCharacterReceived c fe) s = .next { s with
        line := { l with
          rx := if fe = true then .hunt false
            else if synced = true ∧ c = 0xC3#8 then .header []
            else .hunt (decide (c = 0x5A#8)) } }) ∧
      (s.line.rx.inFrame = true → fe = true → exec (.lineCharacterReceived c fe) s = .next { s with
        line := { l with
          rx := .hunt false
          counters := { l.counters with truncated := min 65535 (l.counters.truncated + 1) } } }) ∧
      (∀ got, s.line.rx = .header got → fe = false → got.length < 3 →
        exec (.lineCharacterReceived c fe) s = .next { s with line := { l with rx := .header (got ++ [c]) } }) ∧
      (∀ kind sender hop, s.line.rx = .header [kind, sender, hop] → fe = false →
        ((hop.toNat ≤ 7 ∧ ((kind = 2#8 ∧ c.toNat = 14) ∨ (kind = 1#8 ∧ 10 ≤ c.toNat ∧ c.toNat ≤ 34))) →
          exec (.lineCharacterReceived c fe) s = .next { s with
            line := { l with rx := .body [kind, sender, hop, c] [] } }) ∧
        (¬(hop.toNat ≤ 7 ∧ ((kind = 2#8 ∧ c.toNat = 14) ∨ (kind = 1#8 ∧ 10 ≤ c.toNat ∧ c.toNat ≤ 34))) →
          exec (.lineCharacterReceived c fe) s = .next { s with
            line := { l with
              rx := .hunt false
              counters := { l.counters with crc := min 65535 (l.counters.crc + 1) } } })) ∧
      (∀ head content, s.line.rx = .body head content → fe = false →
        exec (.lineCharacterReceived c fe) s = .next { s with
          line := { l with
            rx := if content.length + 1 < (head.getD 3 0#8).toNat then .body head (content ++ [c])
              else .check head (content ++ [c]) [] } }) ∧
      (∀ head content, s.line.rx = .check head content [] → fe = false →
        exec (.lineCharacterReceived c fe) s = .next { s with line := { l with rx := .check head content [c] } }) ∧
      (∀ kind sender hop length content first, s.line.rx = .check [kind, sender, hop, length] content [first] →
        fe = false →
        ([first, c] ≠ crcBytes ([kind, sender, hop, length] ++ content) →
          exec (.lineCharacterReceived c fe) s = .next { s with
            line := { l with
              rx := .hunt false
              counters := { l.counters with crc := min 65535 (l.counters.crc + 1) } } }) ∧
        ([first, c] = crcBytes ([kind, sender, hop, length] ++ content) →
          (sender.toNat = s.cfg.station → exec (.lineCharacterReceived c fe) s = .next
            { u with
              line := { l with rx := .hunt false }
              told := s.told ++ [.latchSetRequest .duplicateStation] }) ∧
          (sender.toNat ≠ s.cfg.station → kind = 2#8 → l.noticeInbox.length < 8 →
            exec (.lineCharacterReceived c fe) s = .next { u with
              line := { l with
                rx := .hunt false
                noticeInbox := l.noticeInbox ++ [⟨sender.toNat, hop.toNat, content⟩]
                counters := { l.counters with good := min 65535 (l.counters.good + 1) } }
              told := s.told ++ [.noticeFrameTaken] }) ∧
          (sender.toNat ≠ s.cfg.station → kind = 1#8 → l.bulletinInbox.length < 4 →
            exec (.lineCharacterReceived c fe) s = .next { u with
              line := { l with
                rx := .hunt false
                bulletinInbox := l.bulletinInbox ++ [⟨sender.toNat, hop.toNat, content⟩]
                counters := { l.counters with good := min 65535 (l.counters.good + 1) } }
              told := s.told ++ [.bulletinFrameTaken] }) ∧
          (sender.toNat ≠ s.cfg.station →
            (kind = 2#8 ∧ 8 ≤ l.noticeInbox.length ∨ kind = 1#8 ∧ 4 ≤ l.bulletinInbox.length) →
            exec (.lineCharacterReceived c fe) s = .next { u with
              line := { l with
                rx := .hunt false
                counters := { l.counters with
                  good := min 65535 (l.counters.good + 1), drops := min 65535 (l.counters.drops + 1) } }
              told := s.told ++ [.latchSetRequest .inboxDrop] })))) ∧
    ((s.line.started = none → s.line.rx.inFrame = true → s.line.rxGap ≤ 40000000) →
      exec .lineBusy s = .next { s with line := { s.line with
        rxBusy := 10000000, rxGap := 0
        tx := match s.line.tx with
          | .waitGap _ => .waitGap 0
          | .idle => .idle
          | .sending x => .sending x } }) ∧
    exec .receiveGapTimeout s = .next
      (if s.line.rx.inFrame = true ∧ 40000000 < s.line.rxGap ∧ s.line.started = none then
        { s.take .receiveGapTimeout with line := { s.line with
          rx := .hunt false
          counters := { s.line.counters with truncated := min 65535 (s.line.counters.truncated + 1) } } }
      else s.take .receiveGapTimeout)

/-- TRANSMIT_START once the quiet count has reached the head frame's gap: the frame leaves the waiting ones and its characters
are sent: the two sync characters, the header, the body and the check of R163; a frame being received is truncated. While one is
on the line TXD has its start bit, its eight data bits from the least significant, and its stop bit, each for a bit-time, and
otherwise rests idle. TRANSMIT_CHARACTER_END after the 10 bit-times of a character, with it read back as sent, goes on to the
next, which began as the last one ended, and after the last the frame has left. A wrong or missing readback is a collision: the
frame leaves where a withdrawal was kept or a newer frame of its key waits, is abandoned at its retry limit, and otherwise waits
again with its access slot moved by 7, a notice first, a bulletin last. That a TRANSMIT_CHARACTER_END that is not yet due
changes nothing is the model's reading (log 3), and that a newer frame counts only while it still waits its choice (log 46)
(R162, R163, R166, R168, R169, R170). -/
def Obligations.LineSends : Prop :=
  ∀ s : State, s.startUp = .running →
    (∀ (q : Nat) (f : Frame) (rest : List Frame), s.line.tx = .waitGap q → s.line.waiting = f :: rest →
      ((if f.isBulletin then 48 else 12) + 3 * f.slot) * 1000000 ≤ q →
      exec .transmitStart s = .next { s.take .transmitStart with
        line := { s.line with
          rx := .hunt false
          counters := { s.line.counters with
            truncated := if s.line.rx.inFrame then min 65535 (s.line.counters.truncated + 1) else s.line.counters.truncated }
          waiting := rest
          tx := .sending ⟨f, encodeFrame s.cfg.station f, 0, 0, none, false⟩ } }) ∧
    (∀ f : Frame, ∃ kind body, (kind, body) = (match f.content with
        | .bulletin b => (1#8, encodeBulletin b)
        | .notice n remaining _ => (2#8, encodeNotice n remaining)) ∧
      encodeFrame s.cfg.station f =
        [0x5A#8, 0xC3#8, kind, byte s.cfg.station, byte f.hop, byte body.length] ++ body ++
          crcBytes ([kind, byte s.cfg.station, byte f.hop, byte body.length] ++ body)) ∧
    (∀ x : Sending, s.line.tx = .sending x → s.line.txen = true ∧
      ∀ c, x.chars[x.pos]? = some c →
        (x.sent < 1000000 → s.line.txdLevel = false) ∧
        (∀ i < 8, x.sent / 1000000 = i + 1 → s.line.txdLevel = c.getLsbD i) ∧
        (9000000 ≤ x.sent → s.line.txdLevel = true)) ∧
    ((∀ x, s.line.tx ≠ .sending x) → s.line.txen = false ∧ s.line.txdLevel = true) ∧
    (∀ x : Sending, s.line.tx = .sending x → x.sent < 10000000 →
      exec .transmitCharacterEnd s = .next (s.take .transmitCharacterEnd)) ∧
    (∀ x : Sending, s.line.tx = .sending x → 10000000 ≤ x.sent →
      (∀ c, x.readback = some (c, false) → x.chars[x.pos]? = some c →
        exec .transmitCharacterEnd s = .next { s.take .transmitCharacterEnd with
          line :=
            if x.pos + 1 < x.chars.length then
              { s.line with tx := .sending { x with pos := x.pos + 1, sent := x.sent - 10000000, readback := none } }
            else { s.line with rx := .hunt false, tx := if s.line.waiting = [] then .idle else .waitGap 0 } }) ∧
      ((x.readback = none ∨ ∃ c fe, x.readback = some (c, fe) ∧ (fe = true ∨ x.chars[x.pos]? ≠ some c)) →
        ∃ l, l = { s.line with
            rx := .hunt false
            counters := { s.line.counters with collisions := min 65535 (s.line.counters.collisions + 1) } } ∧
          ((x.withdrawn = true ∨ ∃ k, x.frame.key = some k ∧ ∃ g ∈ s.line.waiting, g.key = some k) →
            exec .transmitCharacterEnd s = .next { s.take .transmitCharacterEnd with
              line := { l with tx := if s.line.waiting = [] then .idle else .waitGap 0 } }) ∧
          (x.withdrawn = false → (∀ k, x.frame.key = some k → ∀ g ∈ s.line.waiting, g.key ≠ some k) →
            ((if x.frame.isBulletin then 2 else 8) ≤ x.frame.attempts + 1 →
              exec .transmitCharacterEnd s = .next { s.take .transmitCharacterEnd with
                line := { l with
                  tx := if s.line.waiting = [] then .idle else .waitGap 0
                  counters := { l.counters with abandoned := min 65535 (l.counters.abandoned + 1) } } }) ∧
            (x.frame.attempts + 1 < (if x.frame.isBulletin then 2 else 8) →
              exec .transmitCharacterEnd s = .next { s.take .transmitCharacterEnd with
                line := { l with
                  tx := .waitGap 0
                  waiting :=
                    if x.frame.isBulletin then
                      s.line.waiting ++ [{ x.frame with attempts := x.frame.attempts + 1, slot := (x.frame.slot + 7) % 16 }]
                    else
                      { x.frame with attempts := x.frame.attempts + 1, slot := (x.frame.slot + 7) % 16 } ::
                        s.line.waiting } }))))

/-! ## Field inputs -/

/-- TERMINAL_LEVEL_CHANGE in RUNNING: a level equal to the debounced one stops the timer; one that differs starts it, or with
a debounce time of 0 is taken at once, as at DEBOUNCE_EXPIRY when the time has run: the debounced level follows the terminal, a
selected edge sets the latch, ATTENTION follows, and the owner alone may change: the carrier input becoming active is a busy
indication for the Line Interface, and a selected edge of a slide input, and no other change of an input but a gate's, tells a
SLIDE_PULSE. LATCH_SET_REQUEST sets the station fault latch, and ATTENTION follows (R123, R162, R169,
R173 to R177). -/
def Obligations.FieldInputChanges : Prop :=
  ∀ s : State, s.startUp = .running →
    (∀ (i : Nat) (x : Input) (active : Bool), s.inputs[i]? = some x → x.terminal ≠ active →
      (x.debounced = active → exec (.terminalLevelChange i active) s = .next { s with
        inputs := s.inputs.set i { x with terminal := active, timer := none } }) ∧
      (x.debounced ≠ active → x.cfg.debounce ≠ 0 → exec (.terminalLevelChange i active) s = .next { s with
        inputs := s.inputs.set i { x with terminal := active, timer := some s.clock } })) ∧
    (∀ (cmd : Instr) (i : Nat) (x : Input) (active : Bool), s.inputs[i]? = some x →
      ((cmd = .terminalLevelChange i active ∧ x.cfg.debounce = 0 ∧ x.terminal ≠ active ∧ x.debounced ≠ active) ∨
        (cmd = .debounceExpiry i ∧ x.terminal = active ∧
          ∃ u, x.timer = some u ∧ u + x.cfg.debounce * 1000 ≤ s.clock)) →
      ∃ t, exec cmd s = .next t ∧
        t.inputs = s.inputs.set i { x with
          terminal := active, debounced := active, timer := none
          latch := x.latch || (match x.cfg.edges with
            | .none => false
            | .rising => active
            | .falling => !active
            | .both => true) } ∧
        AttentionFollows t ∧
        ((∀ g, x.cfg.role ≠ .gateUp g ∧ x.cfg.role ≠ .gateDown g ∧ x.cfg.role ≠ .beam g) → t.gates = s.gates) ∧
        (x.cfg.role ≠ .lineCarrier → t.line = s.line) ∧
        (x.cfg.role = .lineCarrier → s.line.gapRun = false → active = true → t.line = { s.line with
          rxGap := 0
          tx := match s.line.tx with
            | .waitGap _ => .waitGap 0
            | .idle => .idle
            | .sending y => .sending y }) ∧
        (x.cfg.role = .lineCarrier → active = false → t.line = s.line) ∧
        ((∀ g, x.cfg.role ≠ .gateUp g ∧ x.cfg.role ≠ .gateDown g ∧ x.cfg.role ≠ .beam g) → t.told =
          (match cmd with
            | .debounceExpiry _ => (s.take cmd).told
            | _ => s.told) ++
          (if x.cfg.role = .slidePulse ∧ (x.cfg.edges = .both ∨ (x.cfg.edges = .rising ∧ active = true) ∨
            (x.cfg.edges = .falling ∧ active = false)) then [.slidePulse] else [])) ∧
        (x.cfg.role = .slidePulse → (x.cfg.edges = .both ∨ (x.cfg.edges = .rising ∧ active = true) ∨
          (x.cfg.edges = .falling ∧ active = false)) → .slidePulse ∈ t.told) ∧
        { t.line with
          rx := s.line.rx, rxGap := s.line.rxGap, tx := s.line.tx, counters := s.line.counters } = s.line ∧
        { t with inputs := s.inputs, attention := s.attention, gates := s.gates, line := s.line, told := s.told } =
          s) ∧
    (∀ latch : FaultLatch, ∃ t, exec (.latchSetRequest latch) s = .next t ∧
      t.faults = s.faults.set latch.bit true ∧ AttentionFollows t ∧
      { t with faults := s.faults, attention := s.attention } = s.take (.latchSetRequest latch))

/-! ## What every step keeps -/

/-- Every promise of the safety file holds in the reset state (R3, R18, R30, R51, R81, R99, R126, R155, R172, R177). -/
def Obligations.ResetMeetsPromises : Prop := Sound State.reset

/-- The notice table keeps its 32 slots and never holds two records with the same origin and number, and the section map stays
the one that the table gives, at every step: for each section the kind and the key of the IN_FORCE notice that stands first
among those that cover it, by the strongest kind, then the strongest level, the lowest origin and the lowest number, and NONE
where none covers it (R3, R30). -/
def Obligations.TableAndMapKept : Prop :=
  ∀ s t : State, TableSound s ∧ MapCurrent s → step s = .next t →
    TableSound t ∧ MapCurrent t ∧ MapShows t.engine.table t.engine.map

/-- ATTENTION stays at the level the latches and the start-up state give, at every step: on in UNCONFIGURED, off in RESET_HELD
and LOADING, and in RUNNING on exactly while a latch whose enable is set is set (R176, R177). -/
def Obligations.AttentionKept : Prop :=
  ∀ s t : State, AttentionFollows s → step s = .next t → AttentionFollows t ∧
    (t.attention = true ↔ t.startUp = .unconfigured ∨
      (t.startUp = .running ∧
        ((∃ l : FaultLatch, t.faultSet l = true ∧ t.cfg.faultEnables.getD l.bit false = true) ∨
          ∃ x ∈ t.inputs, x.latch = true ∧ x.cfg.attention = true)))

/-- The outputs, timers, marks, hold level and fault cause of every gate stay those of its state and mode, and its drives are
never on together, at every step (R44, R49, R51, R60, R61, R67, R70). -/
def Obligations.GatesKept : Prop :=
  ∀ s t : State, GatesSound s → step s = .next t → GatesSound t ∧ DrivesApart t

/-- Every display stack stays in order, never holds two claims of one identity, holds no claim from the future, and is empty
while the station is not RUNNING, at every step (R81, R84). -/
def Obligations.StacksKept : Prop :=
  ∀ s t : State, StacksSound s → step s = .next t → StacksSound t

/-- The state of every panel stays in agreement with its front image, lead-shown time, render, miss counts and fault, at every
step (R99, R103, R104, R109). -/
def Obligations.PanelsKept : Prop :=
  ∀ s t : State, PanelsSound s → step s = .next t → PanelsSound t

/-- The transmit queue never holds more than 12 frames, two unstarted frames of one key or a notice frame behind a bulletin, the
transmitter is IDLE exactly while it sends none and none waits, and the inboxes never hold more than 8 and 4 frames, at every
step; and every unstarted notice frame, and a started one not found by a
withdrawal, is for a key that is held IN_FORCE or LIFTED (R18, R165, R166, R168, R169). -/
def Obligations.QueueAndInboxesKept : Prop :=
  ∀ s t : State, QueueSound s ∧ InboxesSound s ∧ FramesHeld s → step s = .next t →
    QueueSound t ∧ InboxesSound t ∧ FramesHeld t

/-- The role records, the hourly ring and the running count stay sound, and the peer table keeps its 16 entries, never two of
one sender, with the present mark following the periods missed, at every step; and so do the local and remote path records, 4 of
each, of which no more than 4 are configured (R114, R120, R123, R125, R128, R129, R130, R155, R157). -/
def Obligations.SensorsAndPeersKept : Prop :=
  (∀ s t : State, SensorsSound s ∧ PeersSound s → step s = .next t → SensorsSound t ∧ PeersSound t) ∧
  ∀ s t : State, PathsSound s → step s = .next t → PathsSound t

/-! ## The byte layouts -/

/-- What the station encodes it decodes: a notice body and a bulletin body with every field in the range that R7 and R154
give, a request frame of each kind, and an ORDER body of any well-formed actions come back whole. The check of a frame is the
CRC-16 of R163, worked bit by bit, the most significant first. A station in HUNT that hears without error a frame another one
sends takes it whole: the frame of a notice or a bulletin in range joins its inbox while there is room and is counted as good
(R7, R154, R163, R164, R165, R183, R190). -/
def Obligations.DecodeOfEncode : Prop :=
  (∀ (n : Notice) (remaining : Nat), noticeInRange n remaining = true → n.number < 256 → n.state ≠ .expired →
    decodeNotice (encodeNotice n remaining) = some (n, remaining)) ∧
  (∀ b : Bulletin, b.wellFormed = true → decodeBulletin (encodeBulletin b) = some b) ∧
  (∀ (c : Instr) (body : List Byte), c.wellFormed = true → encodeRequest c = some body → decodeRequest body = c) ∧
  (∀ (level : Nat) (acts : List OrderAction), level < 256 → acts.length < 256 →
    (∀ a ∈ acts, a.wellFormed = true) → decodeOrder (encodeOrder level acts) = .ok (level, acts)) ∧
  (∀ xs : List Byte, ∃ r : Word16,
    r = (xs.flatMap fun x => [7, 6, 5, 4, 3, 2, 1, 0].map x.getLsbD).foldl
      (fun (r : Word16) (b : Bool) => (r <<< 1) ^^^ (if r.msb ≠ b then 0x1021#16 else 0#16)) 0xFFFF#16 ∧
    crcBytes xs = [byte (r.toNat / 256), byte r.toNat]) ∧
  (∀ (s : State) (sender : Nat) (f : Frame) (synced : Bool), s.startUp = .running → s.line.started = none →
    s.line.rx = .hunt synced → sender ≤ 255 → sender ≠ s.cfg.station → f.hop ≤ 7 →
    ∃ l : Line, l = { s.line with
        rx := .hunt false, rxBusy := 0, rxGap := 0, tx := if s.line.tx = .idle then .idle else .waitGap 0
        counters := { s.line.counters with good := min 65535 (s.line.counters.good + 1) } } ∧
      (∀ n remaining purpose, f.content = .notice n remaining purpose → s.line.noticeInbox.length < 8 →
        Hears (encodeFrame sender f) s { s with
          line := { l with noticeInbox := s.line.noticeInbox ++ [⟨sender, f.hop, encodeNotice n remaining⟩] }
          told := s.told ++ [.noticeFrameTaken] }) ∧
      (∀ b, f.content = .bulletin b → b.wellFormed = true → s.line.bulletinInbox.length < 4 →
        Hears (encodeFrame sender f) s { s with
          line := { l with bulletinInbox := s.line.bulletinInbox ++ [⟨sender, f.hop, encodeBulletin b⟩] }
          told := s.told ++ [.bulletinFrameTaken] }))
end

