-- ==== Sys2Proof/Laws/State.lean ====
section
/-! SUPPORT. What each update of the state leaves in each field, so that no proof unfolds a record update. -/

namespace Sys2Proof.Machine

variable (s : State)

/-! ### State.tell -/

@[simp] theorem State.tell_pending (cs : List Instr) : (s.tell cs).pending = s.pending := rfl
@[simp] theorem State.tell_startUp (cs : List Instr) : (s.tell cs).startUp = s.startUp := rfl
@[simp] theorem State.tell_failure (cs : List Instr) : (s.tell cs).failure = s.failure := rfl
@[simp] theorem State.tell_settling (cs : List Instr) : (s.tell cs).settling = s.settling := rfl
@[simp] theorem State.tell_clock (cs : List Instr) : (s.tell cs).clock = s.clock := rfl
@[simp] theorem State.tell_cfg (cs : List Instr) : (s.tell cs).cfg = s.cfg := rfl
@[simp] theorem State.tell_store (cs : List Instr) : (s.tell cs).store = s.store := rfl
@[simp] theorem State.tell_engine (cs : List Instr) : (s.tell cs).engine = s.engine := rfl
@[simp] theorem State.tell_gates (cs : List Instr) : (s.tell cs).gates = s.gates := rfl
@[simp] theorem State.tell_displays (cs : List Instr) : (s.tell cs).displays = s.displays := rfl
@[simp] theorem State.tell_rules (cs : List Instr) : (s.tell cs).rules = s.rules := rfl
@[simp] theorem State.tell_panels (cs : List Instr) : (s.tell cs).panels = s.panels := rfl
@[simp] theorem State.tell_acq (cs : List Instr) : (s.tell cs).acq = s.acq := rfl
@[simp] theorem State.tell_hazard (cs : List Instr) : (s.tell cs).hazard = s.hazard := rfl
@[simp] theorem State.tell_bulletin (cs : List Instr) : (s.tell cs).bulletin = s.bulletin := rfl
@[simp] theorem State.tell_line (cs : List Instr) : (s.tell cs).line = s.line := rfl
@[simp] theorem State.tell_inputs (cs : List Instr) : (s.tell cs).inputs = s.inputs := rfl
@[simp] theorem State.tell_faults (cs : List Instr) : (s.tell cs).faults = s.faults := rfl
@[simp] theorem State.tell_attention (cs : List Instr) : (s.tell cs).attention = s.attention := rfl
@[simp] theorem State.tell_port (cs : List Instr) : (s.tell cs).port = s.port := rfl
@[simp] theorem State.tell_told (cs : List Instr) :
    (s.tell cs).told = s.told ++ cs := rfl

/-! ### State.take -/

@[simp] theorem State.take_pending (c : Instr) : (s.take c).pending = s.pending := rfl
@[simp] theorem State.take_startUp (c : Instr) : (s.take c).startUp = s.startUp := rfl
@[simp] theorem State.take_failure (c : Instr) : (s.take c).failure = s.failure := rfl
@[simp] theorem State.take_settling (c : Instr) : (s.take c).settling = s.settling := rfl
@[simp] theorem State.take_clock (c : Instr) : (s.take c).clock = s.clock := rfl
@[simp] theorem State.take_cfg (c : Instr) : (s.take c).cfg = s.cfg := rfl
@[simp] theorem State.take_store (c : Instr) : (s.take c).store = s.store := rfl
@[simp] theorem State.take_engine (c : Instr) : (s.take c).engine = s.engine := rfl
@[simp] theorem State.take_gates (c : Instr) : (s.take c).gates = s.gates := rfl
@[simp] theorem State.take_displays (c : Instr) : (s.take c).displays = s.displays := rfl
@[simp] theorem State.take_rules (c : Instr) : (s.take c).rules = s.rules := rfl
@[simp] theorem State.take_panels (c : Instr) : (s.take c).panels = s.panels := rfl
@[simp] theorem State.take_acq (c : Instr) : (s.take c).acq = s.acq := rfl
@[simp] theorem State.take_hazard (c : Instr) : (s.take c).hazard = s.hazard := rfl
@[simp] theorem State.take_bulletin (c : Instr) : (s.take c).bulletin = s.bulletin := rfl
@[simp] theorem State.take_line (c : Instr) : (s.take c).line = s.line := rfl
@[simp] theorem State.take_inputs (c : Instr) : (s.take c).inputs = s.inputs := rfl
@[simp] theorem State.take_faults (c : Instr) : (s.take c).faults = s.faults := rfl
@[simp] theorem State.take_attention (c : Instr) : (s.take c).attention = s.attention := rfl
@[simp] theorem State.take_port (c : Instr) : (s.take c).port = s.port := rfl
@[simp] theorem State.take_told (c : Instr) :
    (s.take c).told = s.told.erase c := rfl

/-! ### State.setGate -/

@[simp] theorem State.setGate_pending (g : GateId) (x : Gate) : (s.setGate g x).pending = s.pending := rfl
@[simp] theorem State.setGate_told (g : GateId) (x : Gate) : (s.setGate g x).told = s.told := rfl
@[simp] theorem State.setGate_startUp (g : GateId) (x : Gate) : (s.setGate g x).startUp = s.startUp := rfl
@[simp] theorem State.setGate_failure (g : GateId) (x : Gate) : (s.setGate g x).failure = s.failure := rfl
@[simp] theorem State.setGate_settling (g : GateId) (x : Gate) : (s.setGate g x).settling = s.settling := rfl
@[simp] theorem State.setGate_clock (g : GateId) (x : Gate) : (s.setGate g x).clock = s.clock := rfl
@[simp] theorem State.setGate_cfg (g : GateId) (x : Gate) : (s.setGate g x).cfg = s.cfg := rfl
@[simp] theorem State.setGate_store (g : GateId) (x : Gate) : (s.setGate g x).store = s.store := rfl
@[simp] theorem State.setGate_engine (g : GateId) (x : Gate) : (s.setGate g x).engine = s.engine := rfl
@[simp] theorem State.setGate_displays (g : GateId) (x : Gate) : (s.setGate g x).displays = s.displays := rfl
@[simp] theorem State.setGate_rules (g : GateId) (x : Gate) : (s.setGate g x).rules = s.rules := rfl
@[simp] theorem State.setGate_panels (g : GateId) (x : Gate) : (s.setGate g x).panels = s.panels := rfl
@[simp] theorem State.setGate_acq (g : GateId) (x : Gate) : (s.setGate g x).acq = s.acq := rfl
@[simp] theorem State.setGate_hazard (g : GateId) (x : Gate) : (s.setGate g x).hazard = s.hazard := rfl
@[simp] theorem State.setGate_bulletin (g : GateId) (x : Gate) : (s.setGate g x).bulletin = s.bulletin := rfl
@[simp] theorem State.setGate_line (g : GateId) (x : Gate) : (s.setGate g x).line = s.line := rfl
@[simp] theorem State.setGate_inputs (g : GateId) (x : Gate) : (s.setGate g x).inputs = s.inputs := rfl
@[simp] theorem State.setGate_faults (g : GateId) (x : Gate) : (s.setGate g x).faults = s.faults := rfl
@[simp] theorem State.setGate_attention (g : GateId) (x : Gate) : (s.setGate g x).attention = s.attention := rfl
@[simp] theorem State.setGate_port (g : GateId) (x : Gate) : (s.setGate g x).port = s.port := rfl
@[simp] theorem State.setGate_gates (g : GateId) (x : Gate) :
    (s.setGate g x).gates = s.gates.set g x := rfl

/-! ### State.setPanel -/

@[simp] theorem State.setPanel_pending (p : Panel) (x : PanelRec) : (s.setPanel p x).pending = s.pending := rfl
@[simp] theorem State.setPanel_told (p : Panel) (x : PanelRec) : (s.setPanel p x).told = s.told := rfl
@[simp] theorem State.setPanel_startUp (p : Panel) (x : PanelRec) : (s.setPanel p x).startUp = s.startUp := rfl
@[simp] theorem State.setPanel_failure (p : Panel) (x : PanelRec) : (s.setPanel p x).failure = s.failure := rfl
@[simp] theorem State.setPanel_settling (p : Panel) (x : PanelRec) : (s.setPanel p x).settling = s.settling := rfl
@[simp] theorem State.setPanel_clock (p : Panel) (x : PanelRec) : (s.setPanel p x).clock = s.clock := rfl
@[simp] theorem State.setPanel_cfg (p : Panel) (x : PanelRec) : (s.setPanel p x).cfg = s.cfg := rfl
@[simp] theorem State.setPanel_store (p : Panel) (x : PanelRec) : (s.setPanel p x).store = s.store := rfl
@[simp] theorem State.setPanel_engine (p : Panel) (x : PanelRec) : (s.setPanel p x).engine = s.engine := rfl
@[simp] theorem State.setPanel_gates (p : Panel) (x : PanelRec) : (s.setPanel p x).gates = s.gates := rfl
@[simp] theorem State.setPanel_displays (p : Panel) (x : PanelRec) : (s.setPanel p x).displays = s.displays := rfl
@[simp] theorem State.setPanel_rules (p : Panel) (x : PanelRec) : (s.setPanel p x).rules = s.rules := rfl
@[simp] theorem State.setPanel_acq (p : Panel) (x : PanelRec) : (s.setPanel p x).acq = s.acq := rfl
@[simp] theorem State.setPanel_hazard (p : Panel) (x : PanelRec) : (s.setPanel p x).hazard = s.hazard := rfl
@[simp] theorem State.setPanel_bulletin (p : Panel) (x : PanelRec) : (s.setPanel p x).bulletin = s.bulletin := rfl
@[simp] theorem State.setPanel_line (p : Panel) (x : PanelRec) : (s.setPanel p x).line = s.line := rfl
@[simp] theorem State.setPanel_inputs (p : Panel) (x : PanelRec) : (s.setPanel p x).inputs = s.inputs := rfl
@[simp] theorem State.setPanel_faults (p : Panel) (x : PanelRec) : (s.setPanel p x).faults = s.faults := rfl
@[simp] theorem State.setPanel_attention (p : Panel) (x : PanelRec) : (s.setPanel p x).attention = s.attention := rfl
@[simp] theorem State.setPanel_port (p : Panel) (x : PanelRec) : (s.setPanel p x).port = s.port := rfl
@[simp] theorem State.setPanel_panels (p : Panel) (x : PanelRec) :
    (s.setPanel p x).panels = s.panels.set p x := rfl

/-! ### State.setStack -/

@[simp] theorem State.setStack_pending (p : Panel) (x : Stack) : (s.setStack p x).pending = s.pending := rfl
@[simp] theorem State.setStack_told (p : Panel) (x : Stack) : (s.setStack p x).told = s.told := rfl
@[simp] theorem State.setStack_startUp (p : Panel) (x : Stack) : (s.setStack p x).startUp = s.startUp := rfl
@[simp] theorem State.setStack_failure (p : Panel) (x : Stack) : (s.setStack p x).failure = s.failure := rfl
@[simp] theorem State.setStack_settling (p : Panel) (x : Stack) : (s.setStack p x).settling = s.settling := rfl
@[simp] theorem State.setStack_clock (p : Panel) (x : Stack) : (s.setStack p x).clock = s.clock := rfl
@[simp] theorem State.setStack_cfg (p : Panel) (x : Stack) : (s.setStack p x).cfg = s.cfg := rfl
@[simp] theorem State.setStack_store (p : Panel) (x : Stack) : (s.setStack p x).store = s.store := rfl
@[simp] theorem State.setStack_engine (p : Panel) (x : Stack) : (s.setStack p x).engine = s.engine := rfl
@[simp] theorem State.setStack_gates (p : Panel) (x : Stack) : (s.setStack p x).gates = s.gates := rfl
@[simp] theorem State.setStack_rules (p : Panel) (x : Stack) : (s.setStack p x).rules = s.rules := rfl
@[simp] theorem State.setStack_panels (p : Panel) (x : Stack) : (s.setStack p x).panels = s.panels := rfl
@[simp] theorem State.setStack_acq (p : Panel) (x : Stack) : (s.setStack p x).acq = s.acq := rfl
@[simp] theorem State.setStack_hazard (p : Panel) (x : Stack) : (s.setStack p x).hazard = s.hazard := rfl
@[simp] theorem State.setStack_bulletin (p : Panel) (x : Stack) : (s.setStack p x).bulletin = s.bulletin := rfl
@[simp] theorem State.setStack_line (p : Panel) (x : Stack) : (s.setStack p x).line = s.line := rfl
@[simp] theorem State.setStack_inputs (p : Panel) (x : Stack) : (s.setStack p x).inputs = s.inputs := rfl
@[simp] theorem State.setStack_faults (p : Panel) (x : Stack) : (s.setStack p x).faults = s.faults := rfl
@[simp] theorem State.setStack_attention (p : Panel) (x : Stack) : (s.setStack p x).attention = s.attention := rfl
@[simp] theorem State.setStack_port (p : Panel) (x : Stack) : (s.setStack p x).port = s.port := rfl
@[simp] theorem State.setStack_displays (p : Panel) (x : Stack) :
    (s.setStack p x).displays = s.displays.set p x := rfl

/-! ### State.setInput -/

@[simp] theorem State.setInput_pending (i : Nat) (x : Input) : (s.setInput i x).pending = s.pending := rfl
@[simp] theorem State.setInput_told (i : Nat) (x : Input) : (s.setInput i x).told = s.told := rfl
@[simp] theorem State.setInput_startUp (i : Nat) (x : Input) : (s.setInput i x).startUp = s.startUp := rfl
@[simp] theorem State.setInput_failure (i : Nat) (x : Input) : (s.setInput i x).failure = s.failure := rfl
@[simp] theorem State.setInput_settling (i : Nat) (x : Input) : (s.setInput i x).settling = s.settling := rfl
@[simp] theorem State.setInput_clock (i : Nat) (x : Input) : (s.setInput i x).clock = s.clock := rfl
@[simp] theorem State.setInput_cfg (i : Nat) (x : Input) : (s.setInput i x).cfg = s.cfg := rfl
@[simp] theorem State.setInput_store (i : Nat) (x : Input) : (s.setInput i x).store = s.store := rfl
@[simp] theorem State.setInput_engine (i : Nat) (x : Input) : (s.setInput i x).engine = s.engine := rfl
@[simp] theorem State.setInput_gates (i : Nat) (x : Input) : (s.setInput i x).gates = s.gates := rfl
@[simp] theorem State.setInput_displays (i : Nat) (x : Input) : (s.setInput i x).displays = s.displays := rfl
@[simp] theorem State.setInput_rules (i : Nat) (x : Input) : (s.setInput i x).rules = s.rules := rfl
@[simp] theorem State.setInput_panels (i : Nat) (x : Input) : (s.setInput i x).panels = s.panels := rfl
@[simp] theorem State.setInput_acq (i : Nat) (x : Input) : (s.setInput i x).acq = s.acq := rfl
@[simp] theorem State.setInput_hazard (i : Nat) (x : Input) : (s.setInput i x).hazard = s.hazard := rfl
@[simp] theorem State.setInput_bulletin (i : Nat) (x : Input) : (s.setInput i x).bulletin = s.bulletin := rfl
@[simp] theorem State.setInput_line (i : Nat) (x : Input) : (s.setInput i x).line = s.line := rfl
@[simp] theorem State.setInput_faults (i : Nat) (x : Input) : (s.setInput i x).faults = s.faults := rfl
@[simp] theorem State.setInput_attention (i : Nat) (x : Input) : (s.setInput i x).attention = s.attention := rfl
@[simp] theorem State.setInput_port (i : Nat) (x : Input) : (s.setInput i x).port = s.port := rfl
@[simp] theorem State.setInput_inputs (i : Nat) (x : Input) :
    (s.setInput i x).inputs = s.inputs.set i x := rfl

/-! ### State.setPath -/

@[simp] theorem State.setPath_pending (i : Nat) (x : PathRec) : (s.setPath i x).pending = s.pending := rfl
@[simp] theorem State.setPath_told (i : Nat) (x : PathRec) : (s.setPath i x).told = s.told := rfl
@[simp] theorem State.setPath_startUp (i : Nat) (x : PathRec) : (s.setPath i x).startUp = s.startUp := rfl
@[simp] theorem State.setPath_failure (i : Nat) (x : PathRec) : (s.setPath i x).failure = s.failure := rfl
@[simp] theorem State.setPath_settling (i : Nat) (x : PathRec) : (s.setPath i x).settling = s.settling := rfl
@[simp] theorem State.setPath_clock (i : Nat) (x : PathRec) : (s.setPath i x).clock = s.clock := rfl
@[simp] theorem State.setPath_cfg (i : Nat) (x : PathRec) : (s.setPath i x).cfg = s.cfg := rfl
@[simp] theorem State.setPath_store (i : Nat) (x : PathRec) : (s.setPath i x).store = s.store := rfl
@[simp] theorem State.setPath_engine (i : Nat) (x : PathRec) : (s.setPath i x).engine = s.engine := rfl
@[simp] theorem State.setPath_gates (i : Nat) (x : PathRec) : (s.setPath i x).gates = s.gates := rfl
@[simp] theorem State.setPath_displays (i : Nat) (x : PathRec) : (s.setPath i x).displays = s.displays := rfl
@[simp] theorem State.setPath_rules (i : Nat) (x : PathRec) : (s.setPath i x).rules = s.rules := rfl
@[simp] theorem State.setPath_panels (i : Nat) (x : PathRec) : (s.setPath i x).panels = s.panels := rfl
@[simp] theorem State.setPath_acq (i : Nat) (x : PathRec) : (s.setPath i x).acq = s.acq := rfl
@[simp] theorem State.setPath_bulletin (i : Nat) (x : PathRec) : (s.setPath i x).bulletin = s.bulletin := rfl
@[simp] theorem State.setPath_line (i : Nat) (x : PathRec) : (s.setPath i x).line = s.line := rfl
@[simp] theorem State.setPath_inputs (i : Nat) (x : PathRec) : (s.setPath i x).inputs = s.inputs := rfl
@[simp] theorem State.setPath_faults (i : Nat) (x : PathRec) : (s.setPath i x).faults = s.faults := rfl
@[simp] theorem State.setPath_attention (i : Nat) (x : PathRec) : (s.setPath i x).attention = s.attention := rfl
@[simp] theorem State.setPath_port (i : Nat) (x : PathRec) : (s.setPath i x).port = s.port := rfl
@[simp] theorem State.setPath_hazard (i : Nat) (x : PathRec) :
    (s.setPath i x).hazard = { s.hazard with paths := s.hazard.paths.set i x } := rfl

/-! ### State.count -/

@[simp] theorem State.count_pending (f : LineCounters → LineCounters) : (s.count f).pending = s.pending := rfl
@[simp] theorem State.count_told (f : LineCounters → LineCounters) : (s.count f).told = s.told := rfl
@[simp] theorem State.count_startUp (f : LineCounters → LineCounters) : (s.count f).startUp = s.startUp := rfl
@[simp] theorem State.count_failure (f : LineCounters → LineCounters) : (s.count f).failure = s.failure := rfl
@[simp] theorem State.count_settling (f : LineCounters → LineCounters) : (s.count f).settling = s.settling := rfl
@[simp] theorem State.count_clock (f : LineCounters → LineCounters) : (s.count f).clock = s.clock := rfl
@[simp] theorem State.count_cfg (f : LineCounters → LineCounters) : (s.count f).cfg = s.cfg := rfl
@[simp] theorem State.count_store (f : LineCounters → LineCounters) : (s.count f).store = s.store := rfl
@[simp] theorem State.count_engine (f : LineCounters → LineCounters) : (s.count f).engine = s.engine := rfl
@[simp] theorem State.count_gates (f : LineCounters → LineCounters) : (s.count f).gates = s.gates := rfl
@[simp] theorem State.count_displays (f : LineCounters → LineCounters) : (s.count f).displays = s.displays := rfl
@[simp] theorem State.count_rules (f : LineCounters → LineCounters) : (s.count f).rules = s.rules := rfl
@[simp] theorem State.count_panels (f : LineCounters → LineCounters) : (s.count f).panels = s.panels := rfl
@[simp] theorem State.count_acq (f : LineCounters → LineCounters) : (s.count f).acq = s.acq := rfl
@[simp] theorem State.count_hazard (f : LineCounters → LineCounters) : (s.count f).hazard = s.hazard := rfl
@[simp] theorem State.count_bulletin (f : LineCounters → LineCounters) : (s.count f).bulletin = s.bulletin := rfl
@[simp] theorem State.count_inputs (f : LineCounters → LineCounters) : (s.count f).inputs = s.inputs := rfl
@[simp] theorem State.count_faults (f : LineCounters → LineCounters) : (s.count f).faults = s.faults := rfl
@[simp] theorem State.count_attention (f : LineCounters → LineCounters) : (s.count f).attention = s.attention := rfl
@[simp] theorem State.count_port (f : LineCounters → LineCounters) : (s.count f).port = s.port := rfl
@[simp] theorem State.count_line (f : LineCounters → LineCounters) :
    (s.count f).line = { s.line with counters := f s.line.counters } := rfl

/-! ### State.setTable -/

@[simp] theorem State.setTable_pending (t : List (Option NoticeRecord)) : (s.setTable t).pending = s.pending := rfl
@[simp] theorem State.setTable_told (t : List (Option NoticeRecord)) : (s.setTable t).told = s.told := rfl
@[simp] theorem State.setTable_startUp (t : List (Option NoticeRecord)) : (s.setTable t).startUp = s.startUp := rfl
@[simp] theorem State.setTable_failure (t : List (Option NoticeRecord)) : (s.setTable t).failure = s.failure := rfl
@[simp] theorem State.setTable_settling (t : List (Option NoticeRecord)) : (s.setTable t).settling = s.settling := rfl
@[simp] theorem State.setTable_clock (t : List (Option NoticeRecord)) : (s.setTable t).clock = s.clock := rfl
@[simp] theorem State.setTable_cfg (t : List (Option NoticeRecord)) : (s.setTable t).cfg = s.cfg := rfl
@[simp] theorem State.setTable_store (t : List (Option NoticeRecord)) : (s.setTable t).store = s.store := rfl
@[simp] theorem State.setTable_gates (t : List (Option NoticeRecord)) : (s.setTable t).gates = s.gates := rfl
@[simp] theorem State.setTable_displays (t : List (Option NoticeRecord)) : (s.setTable t).displays = s.displays := rfl
@[simp] theorem State.setTable_rules (t : List (Option NoticeRecord)) : (s.setTable t).rules = s.rules := rfl
@[simp] theorem State.setTable_panels (t : List (Option NoticeRecord)) : (s.setTable t).panels = s.panels := rfl
@[simp] theorem State.setTable_acq (t : List (Option NoticeRecord)) : (s.setTable t).acq = s.acq := rfl
@[simp] theorem State.setTable_hazard (t : List (Option NoticeRecord)) : (s.setTable t).hazard = s.hazard := rfl
@[simp] theorem State.setTable_bulletin (t : List (Option NoticeRecord)) : (s.setTable t).bulletin = s.bulletin := rfl
@[simp] theorem State.setTable_line (t : List (Option NoticeRecord)) : (s.setTable t).line = s.line := rfl
@[simp] theorem State.setTable_inputs (t : List (Option NoticeRecord)) : (s.setTable t).inputs = s.inputs := rfl
@[simp] theorem State.setTable_faults (t : List (Option NoticeRecord)) : (s.setTable t).faults = s.faults := rfl
@[simp] theorem State.setTable_attention (t : List (Option NoticeRecord)) : (s.setTable t).attention = s.attention := rfl
@[simp] theorem State.setTable_port (t : List (Option NoticeRecord)) : (s.setTable t).port = s.port := rfl
@[simp] theorem State.setTable_engine (t : List (Option NoticeRecord)) :
    (s.setTable t).engine = { s.engine with table := t } := rfl

/-! ### State.setSlot -/

@[simp] theorem State.setSlot_pending (i : Nat) (r : Option NoticeRecord) : (s.setSlot i r).pending = s.pending := rfl
@[simp] theorem State.setSlot_told (i : Nat) (r : Option NoticeRecord) : (s.setSlot i r).told = s.told := rfl
@[simp] theorem State.setSlot_startUp (i : Nat) (r : Option NoticeRecord) : (s.setSlot i r).startUp = s.startUp := rfl
@[simp] theorem State.setSlot_failure (i : Nat) (r : Option NoticeRecord) : (s.setSlot i r).failure = s.failure := rfl
@[simp] theorem State.setSlot_settling (i : Nat) (r : Option NoticeRecord) : (s.setSlot i r).settling = s.settling := rfl
@[simp] theorem State.setSlot_clock (i : Nat) (r : Option NoticeRecord) : (s.setSlot i r).clock = s.clock := rfl
@[simp] theorem State.setSlot_cfg (i : Nat) (r : Option NoticeRecord) : (s.setSlot i r).cfg = s.cfg := rfl
@[simp] theorem State.setSlot_store (i : Nat) (r : Option NoticeRecord) : (s.setSlot i r).store = s.store := rfl
@[simp] theorem State.setSlot_gates (i : Nat) (r : Option NoticeRecord) : (s.setSlot i r).gates = s.gates := rfl
@[simp] theorem State.setSlot_displays (i : Nat) (r : Option NoticeRecord) : (s.setSlot i r).displays = s.displays := rfl
@[simp] theorem State.setSlot_rules (i : Nat) (r : Option NoticeRecord) : (s.setSlot i r).rules = s.rules := rfl
@[simp] theorem State.setSlot_panels (i : Nat) (r : Option NoticeRecord) : (s.setSlot i r).panels = s.panels := rfl
@[simp] theorem State.setSlot_acq (i : Nat) (r : Option NoticeRecord) : (s.setSlot i r).acq = s.acq := rfl
@[simp] theorem State.setSlot_hazard (i : Nat) (r : Option NoticeRecord) : (s.setSlot i r).hazard = s.hazard := rfl
@[simp] theorem State.setSlot_bulletin (i : Nat) (r : Option NoticeRecord) : (s.setSlot i r).bulletin = s.bulletin := rfl
@[simp] theorem State.setSlot_line (i : Nat) (r : Option NoticeRecord) : (s.setSlot i r).line = s.line := rfl
@[simp] theorem State.setSlot_inputs (i : Nat) (r : Option NoticeRecord) : (s.setSlot i r).inputs = s.inputs := rfl
@[simp] theorem State.setSlot_faults (i : Nat) (r : Option NoticeRecord) : (s.setSlot i r).faults = s.faults := rfl
@[simp] theorem State.setSlot_attention (i : Nat) (r : Option NoticeRecord) : (s.setSlot i r).attention = s.attention := rfl
@[simp] theorem State.setSlot_port (i : Nat) (r : Option NoticeRecord) : (s.setSlot i r).port = s.port := rfl
@[simp] theorem State.setSlot_engine (i : Nat) (r : Option NoticeRecord) :
    (s.setSlot i r).engine = { s.engine with table := s.engine.table.set i r } := rfl

/-! ### State.setLine -/

@[simp] theorem State.setLine_pending (l : Line) : (s.setLine l).pending = s.pending := rfl
@[simp] theorem State.setLine_told (l : Line) : (s.setLine l).told = s.told := rfl
@[simp] theorem State.setLine_startUp (l : Line) : (s.setLine l).startUp = s.startUp := rfl
@[simp] theorem State.setLine_failure (l : Line) : (s.setLine l).failure = s.failure := rfl
@[simp] theorem State.setLine_settling (l : Line) : (s.setLine l).settling = s.settling := rfl
@[simp] theorem State.setLine_clock (l : Line) : (s.setLine l).clock = s.clock := rfl
@[simp] theorem State.setLine_cfg (l : Line) : (s.setLine l).cfg = s.cfg := rfl
@[simp] theorem State.setLine_store (l : Line) : (s.setLine l).store = s.store := rfl
@[simp] theorem State.setLine_engine (l : Line) : (s.setLine l).engine = s.engine := rfl
@[simp] theorem State.setLine_gates (l : Line) : (s.setLine l).gates = s.gates := rfl
@[simp] theorem State.setLine_displays (l : Line) : (s.setLine l).displays = s.displays := rfl
@[simp] theorem State.setLine_rules (l : Line) : (s.setLine l).rules = s.rules := rfl
@[simp] theorem State.setLine_panels (l : Line) : (s.setLine l).panels = s.panels := rfl
@[simp] theorem State.setLine_acq (l : Line) : (s.setLine l).acq = s.acq := rfl
@[simp] theorem State.setLine_hazard (l : Line) : (s.setLine l).hazard = s.hazard := rfl
@[simp] theorem State.setLine_bulletin (l : Line) : (s.setLine l).bulletin = s.bulletin := rfl
@[simp] theorem State.setLine_inputs (l : Line) : (s.setLine l).inputs = s.inputs := rfl
@[simp] theorem State.setLine_faults (l : Line) : (s.setLine l).faults = s.faults := rfl
@[simp] theorem State.setLine_attention (l : Line) : (s.setLine l).attention = s.attention := rfl
@[simp] theorem State.setLine_port (l : Line) : (s.setLine l).port = s.port := rfl
@[simp] theorem State.setLine_line (l : Line) :
    (s.setLine l).line = l := rfl

/-! ### State.setRx -/

@[simp] theorem State.setRx_pending (rx : Receiver) : (s.setRx rx).pending = s.pending := rfl
@[simp] theorem State.setRx_told (rx : Receiver) : (s.setRx rx).told = s.told := rfl
@[simp] theorem State.setRx_startUp (rx : Receiver) : (s.setRx rx).startUp = s.startUp := rfl
@[simp] theorem State.setRx_failure (rx : Receiver) : (s.setRx rx).failure = s.failure := rfl
@[simp] theorem State.setRx_settling (rx : Receiver) : (s.setRx rx).settling = s.settling := rfl
@[simp] theorem State.setRx_clock (rx : Receiver) : (s.setRx rx).clock = s.clock := rfl
@[simp] theorem State.setRx_cfg (rx : Receiver) : (s.setRx rx).cfg = s.cfg := rfl
@[simp] theorem State.setRx_store (rx : Receiver) : (s.setRx rx).store = s.store := rfl
@[simp] theorem State.setRx_engine (rx : Receiver) : (s.setRx rx).engine = s.engine := rfl
@[simp] theorem State.setRx_gates (rx : Receiver) : (s.setRx rx).gates = s.gates := rfl
@[simp] theorem State.setRx_displays (rx : Receiver) : (s.setRx rx).displays = s.displays := rfl
@[simp] theorem State.setRx_rules (rx : Receiver) : (s.setRx rx).rules = s.rules := rfl
@[simp] theorem State.setRx_panels (rx : Receiver) : (s.setRx rx).panels = s.panels := rfl
@[simp] theorem State.setRx_acq (rx : Receiver) : (s.setRx rx).acq = s.acq := rfl
@[simp] theorem State.setRx_hazard (rx : Receiver) : (s.setRx rx).hazard = s.hazard := rfl
@[simp] theorem State.setRx_bulletin (rx : Receiver) : (s.setRx rx).bulletin = s.bulletin := rfl
@[simp] theorem State.setRx_inputs (rx : Receiver) : (s.setRx rx).inputs = s.inputs := rfl
@[simp] theorem State.setRx_faults (rx : Receiver) : (s.setRx rx).faults = s.faults := rfl
@[simp] theorem State.setRx_attention (rx : Receiver) : (s.setRx rx).attention = s.attention := rfl
@[simp] theorem State.setRx_port (rx : Receiver) : (s.setRx rx).port = s.port := rfl
@[simp] theorem State.setRx_line (rx : Receiver) :
    (s.setRx rx).line = { s.line with rx := rx } := rfl

/-! ### State.withdrawGone -/

@[simp] theorem State.withdrawGone_pending (k : NoticeKey) : (s.withdrawGone k).pending = s.pending := rfl
@[simp] theorem State.withdrawGone_told (k : NoticeKey) : (s.withdrawGone k).told = s.told := rfl
@[simp] theorem State.withdrawGone_startUp (k : NoticeKey) : (s.withdrawGone k).startUp = s.startUp := rfl
@[simp] theorem State.withdrawGone_failure (k : NoticeKey) : (s.withdrawGone k).failure = s.failure := rfl
@[simp] theorem State.withdrawGone_settling (k : NoticeKey) : (s.withdrawGone k).settling = s.settling := rfl
@[simp] theorem State.withdrawGone_clock (k : NoticeKey) : (s.withdrawGone k).clock = s.clock := rfl
@[simp] theorem State.withdrawGone_cfg (k : NoticeKey) : (s.withdrawGone k).cfg = s.cfg := rfl
@[simp] theorem State.withdrawGone_store (k : NoticeKey) : (s.withdrawGone k).store = s.store := rfl
@[simp] theorem State.withdrawGone_engine (k : NoticeKey) : (s.withdrawGone k).engine = s.engine := rfl
@[simp] theorem State.withdrawGone_gates (k : NoticeKey) : (s.withdrawGone k).gates = s.gates := rfl
@[simp] theorem State.withdrawGone_displays (k : NoticeKey) : (s.withdrawGone k).displays = s.displays := rfl
@[simp] theorem State.withdrawGone_rules (k : NoticeKey) : (s.withdrawGone k).rules = s.rules := rfl
@[simp] theorem State.withdrawGone_panels (k : NoticeKey) : (s.withdrawGone k).panels = s.panels := rfl
@[simp] theorem State.withdrawGone_acq (k : NoticeKey) : (s.withdrawGone k).acq = s.acq := rfl
@[simp] theorem State.withdrawGone_hazard (k : NoticeKey) : (s.withdrawGone k).hazard = s.hazard := rfl
@[simp] theorem State.withdrawGone_bulletin (k : NoticeKey) : (s.withdrawGone k).bulletin = s.bulletin := rfl
@[simp] theorem State.withdrawGone_inputs (k : NoticeKey) : (s.withdrawGone k).inputs = s.inputs := rfl
@[simp] theorem State.withdrawGone_faults (k : NoticeKey) : (s.withdrawGone k).faults = s.faults := rfl
@[simp] theorem State.withdrawGone_attention (k : NoticeKey) : (s.withdrawGone k).attention = s.attention := rfl
@[simp] theorem State.withdrawGone_port (k : NoticeKey) : (s.withdrawGone k).port = s.port := rfl
@[simp] theorem State.withdrawGone_line (k : NoticeKey) :
    (s.withdrawGone k).line = s.line.withdrawGone k := rfl

/-! ### State.unpend -/

@[simp] theorem State.unpend_pending (k : NoticeKey) : (s.unpend k).pending = s.pending := rfl
@[simp] theorem State.unpend_told (k : NoticeKey) : (s.unpend k).told = s.told := rfl
@[simp] theorem State.unpend_startUp (k : NoticeKey) : (s.unpend k).startUp = s.startUp := rfl
@[simp] theorem State.unpend_failure (k : NoticeKey) : (s.unpend k).failure = s.failure := rfl
@[simp] theorem State.unpend_settling (k : NoticeKey) : (s.unpend k).settling = s.settling := rfl
@[simp] theorem State.unpend_clock (k : NoticeKey) : (s.unpend k).clock = s.clock := rfl
@[simp] theorem State.unpend_cfg (k : NoticeKey) : (s.unpend k).cfg = s.cfg := rfl
@[simp] theorem State.unpend_store (k : NoticeKey) : (s.unpend k).store = s.store := rfl
@[simp] theorem State.unpend_gates (k : NoticeKey) : (s.unpend k).gates = s.gates := rfl
@[simp] theorem State.unpend_displays (k : NoticeKey) : (s.unpend k).displays = s.displays := rfl
@[simp] theorem State.unpend_rules (k : NoticeKey) : (s.unpend k).rules = s.rules := rfl
@[simp] theorem State.unpend_panels (k : NoticeKey) : (s.unpend k).panels = s.panels := rfl
@[simp] theorem State.unpend_acq (k : NoticeKey) : (s.unpend k).acq = s.acq := rfl
@[simp] theorem State.unpend_hazard (k : NoticeKey) : (s.unpend k).hazard = s.hazard := rfl
@[simp] theorem State.unpend_bulletin (k : NoticeKey) : (s.unpend k).bulletin = s.bulletin := rfl
@[simp] theorem State.unpend_line (k : NoticeKey) : (s.unpend k).line = s.line := rfl
@[simp] theorem State.unpend_inputs (k : NoticeKey) : (s.unpend k).inputs = s.inputs := rfl
@[simp] theorem State.unpend_faults (k : NoticeKey) : (s.unpend k).faults = s.faults := rfl
@[simp] theorem State.unpend_attention (k : NoticeKey) : (s.unpend k).attention = s.attention := rfl
@[simp] theorem State.unpend_port (k : NoticeKey) : (s.unpend k).port = s.port := rfl
@[simp] theorem State.unpend_engine (k : NoticeKey) :
    (s.unpend k).engine = { s.engine with pendingSet := s.engine.pendingSet.filter (· ≠ k) } := rfl

/-! ### State.setPeer -/

@[simp] theorem State.setPeer_pending (i : Nat) (x : Option Peer) : (s.setPeer i x).pending = s.pending := rfl
@[simp] theorem State.setPeer_told (i : Nat) (x : Option Peer) : (s.setPeer i x).told = s.told := rfl
@[simp] theorem State.setPeer_startUp (i : Nat) (x : Option Peer) : (s.setPeer i x).startUp = s.startUp := rfl
@[simp] theorem State.setPeer_failure (i : Nat) (x : Option Peer) : (s.setPeer i x).failure = s.failure := rfl
@[simp] theorem State.setPeer_settling (i : Nat) (x : Option Peer) : (s.setPeer i x).settling = s.settling := rfl
@[simp] theorem State.setPeer_clock (i : Nat) (x : Option Peer) : (s.setPeer i x).clock = s.clock := rfl
@[simp] theorem State.setPeer_cfg (i : Nat) (x : Option Peer) : (s.setPeer i x).cfg = s.cfg := rfl
@[simp] theorem State.setPeer_store (i : Nat) (x : Option Peer) : (s.setPeer i x).store = s.store := rfl
@[simp] theorem State.setPeer_engine (i : Nat) (x : Option Peer) : (s.setPeer i x).engine = s.engine := rfl
@[simp] theorem State.setPeer_gates (i : Nat) (x : Option Peer) : (s.setPeer i x).gates = s.gates := rfl
@[simp] theorem State.setPeer_displays (i : Nat) (x : Option Peer) : (s.setPeer i x).displays = s.displays := rfl
@[simp] theorem State.setPeer_rules (i : Nat) (x : Option Peer) : (s.setPeer i x).rules = s.rules := rfl
@[simp] theorem State.setPeer_panels (i : Nat) (x : Option Peer) : (s.setPeer i x).panels = s.panels := rfl
@[simp] theorem State.setPeer_acq (i : Nat) (x : Option Peer) : (s.setPeer i x).acq = s.acq := rfl
@[simp] theorem State.setPeer_hazard (i : Nat) (x : Option Peer) : (s.setPeer i x).hazard = s.hazard := rfl
@[simp] theorem State.setPeer_line (i : Nat) (x : Option Peer) : (s.setPeer i x).line = s.line := rfl
@[simp] theorem State.setPeer_inputs (i : Nat) (x : Option Peer) : (s.setPeer i x).inputs = s.inputs := rfl
@[simp] theorem State.setPeer_faults (i : Nat) (x : Option Peer) : (s.setPeer i x).faults = s.faults := rfl
@[simp] theorem State.setPeer_attention (i : Nat) (x : Option Peer) : (s.setPeer i x).attention = s.attention := rfl
@[simp] theorem State.setPeer_port (i : Nat) (x : Option Peer) : (s.setPeer i x).port = s.port := rfl
@[simp] theorem State.setPeer_bulletin (i : Nat) (x : Option Peer) :
    (s.setPeer i x).bulletin = { s.bulletin with peers := s.bulletin.peers.set i x } := rfl

/-! ### State.mark -/

@[simp] theorem State.mark_pending (d : Nat) (b : Bool) : (s.mark d b).pending = s.pending := rfl
@[simp] theorem State.mark_told (d : Nat) (b : Bool) : (s.mark d b).told = s.told := rfl
@[simp] theorem State.mark_startUp (d : Nat) (b : Bool) : (s.mark d b).startUp = s.startUp := rfl
@[simp] theorem State.mark_failure (d : Nat) (b : Bool) : (s.mark d b).failure = s.failure := rfl
@[simp] theorem State.mark_settling (d : Nat) (b : Bool) : (s.mark d b).settling = s.settling := rfl
@[simp] theorem State.mark_clock (d : Nat) (b : Bool) : (s.mark d b).clock = s.clock := rfl
@[simp] theorem State.mark_cfg (d : Nat) (b : Bool) : (s.mark d b).cfg = s.cfg := rfl
@[simp] theorem State.mark_engine (d : Nat) (b : Bool) : (s.mark d b).engine = s.engine := rfl
@[simp] theorem State.mark_gates (d : Nat) (b : Bool) : (s.mark d b).gates = s.gates := rfl
@[simp] theorem State.mark_displays (d : Nat) (b : Bool) : (s.mark d b).displays = s.displays := rfl
@[simp] theorem State.mark_rules (d : Nat) (b : Bool) : (s.mark d b).rules = s.rules := rfl
@[simp] theorem State.mark_panels (d : Nat) (b : Bool) : (s.mark d b).panels = s.panels := rfl
@[simp] theorem State.mark_acq (d : Nat) (b : Bool) : (s.mark d b).acq = s.acq := rfl
@[simp] theorem State.mark_hazard (d : Nat) (b : Bool) : (s.mark d b).hazard = s.hazard := rfl
@[simp] theorem State.mark_bulletin (d : Nat) (b : Bool) : (s.mark d b).bulletin = s.bulletin := rfl
@[simp] theorem State.mark_line (d : Nat) (b : Bool) : (s.mark d b).line = s.line := rfl
@[simp] theorem State.mark_inputs (d : Nat) (b : Bool) : (s.mark d b).inputs = s.inputs := rfl
@[simp] theorem State.mark_faults (d : Nat) (b : Bool) : (s.mark d b).faults = s.faults := rfl
@[simp] theorem State.mark_attention (d : Nat) (b : Bool) : (s.mark d b).attention = s.attention := rfl
@[simp] theorem State.mark_port (d : Nat) (b : Bool) : (s.mark d b).port = s.port := rfl
@[simp] theorem State.mark_store (d : Nat) (b : Bool) :
    (s.mark d b).store = s.store.set d { s.descriptor d with accessed := b } := rfl

/-! ### State.follow -/

@[simp] theorem State.follow_pending : (s.follow).pending = s.pending := rfl
@[simp] theorem State.follow_told : (s.follow).told = s.told := rfl
@[simp] theorem State.follow_startUp : (s.follow).startUp = s.startUp := rfl
@[simp] theorem State.follow_failure : (s.follow).failure = s.failure := rfl
@[simp] theorem State.follow_settling : (s.follow).settling = s.settling := rfl
@[simp] theorem State.follow_clock : (s.follow).clock = s.clock := rfl
@[simp] theorem State.follow_cfg : (s.follow).cfg = s.cfg := rfl
@[simp] theorem State.follow_store : (s.follow).store = s.store := rfl
@[simp] theorem State.follow_engine : (s.follow).engine = s.engine := rfl
@[simp] theorem State.follow_gates : (s.follow).gates = s.gates := rfl
@[simp] theorem State.follow_displays : (s.follow).displays = s.displays := rfl
@[simp] theorem State.follow_rules : (s.follow).rules = s.rules := rfl
@[simp] theorem State.follow_panels : (s.follow).panels = s.panels := rfl
@[simp] theorem State.follow_acq : (s.follow).acq = s.acq := rfl
@[simp] theorem State.follow_hazard : (s.follow).hazard = s.hazard := rfl
@[simp] theorem State.follow_bulletin : (s.follow).bulletin = s.bulletin := rfl
@[simp] theorem State.follow_line : (s.follow).line = s.line := rfl
@[simp] theorem State.follow_inputs : (s.follow).inputs = s.inputs := rfl
@[simp] theorem State.follow_faults : (s.follow).faults = s.faults := rfl
@[simp] theorem State.follow_port : (s.follow).port = s.port := rfl
@[simp] theorem State.follow_attention :
    (s.follow).attention = s.attentionLevel := rfl

/-! ### State.setFault -/

@[simp] theorem State.setFault_pending (l : FaultLatch) : (s.setFault l).pending = s.pending := rfl
@[simp] theorem State.setFault_told (l : FaultLatch) : (s.setFault l).told = s.told := rfl
@[simp] theorem State.setFault_startUp (l : FaultLatch) : (s.setFault l).startUp = s.startUp := rfl
@[simp] theorem State.setFault_failure (l : FaultLatch) : (s.setFault l).failure = s.failure := rfl
@[simp] theorem State.setFault_settling (l : FaultLatch) : (s.setFault l).settling = s.settling := rfl
@[simp] theorem State.setFault_clock (l : FaultLatch) : (s.setFault l).clock = s.clock := rfl
@[simp] theorem State.setFault_cfg (l : FaultLatch) : (s.setFault l).cfg = s.cfg := rfl
@[simp] theorem State.setFault_store (l : FaultLatch) : (s.setFault l).store = s.store := rfl
@[simp] theorem State.setFault_engine (l : FaultLatch) : (s.setFault l).engine = s.engine := rfl
@[simp] theorem State.setFault_gates (l : FaultLatch) : (s.setFault l).gates = s.gates := rfl
@[simp] theorem State.setFault_displays (l : FaultLatch) : (s.setFault l).displays = s.displays := rfl
@[simp] theorem State.setFault_rules (l : FaultLatch) : (s.setFault l).rules = s.rules := rfl
@[simp] theorem State.setFault_panels (l : FaultLatch) : (s.setFault l).panels = s.panels := rfl
@[simp] theorem State.setFault_acq (l : FaultLatch) : (s.setFault l).acq = s.acq := rfl
@[simp] theorem State.setFault_hazard (l : FaultLatch) : (s.setFault l).hazard = s.hazard := rfl
@[simp] theorem State.setFault_bulletin (l : FaultLatch) : (s.setFault l).bulletin = s.bulletin := rfl
@[simp] theorem State.setFault_line (l : FaultLatch) : (s.setFault l).line = s.line := rfl
@[simp] theorem State.setFault_inputs (l : FaultLatch) : (s.setFault l).inputs = s.inputs := rfl
@[simp] theorem State.setFault_port (l : FaultLatch) : (s.setFault l).port = s.port := rfl
@[simp] theorem State.setFault_faults (l : FaultLatch) :
    (s.setFault l).faults = s.faults.set l.bit true := rfl

/-! ### State.setPort -/

@[simp] theorem State.setPort_pending (x : PortState) : (s.setPort x).pending = s.pending := rfl
@[simp] theorem State.setPort_told (x : PortState) : (s.setPort x).told = s.told := rfl
@[simp] theorem State.setPort_startUp (x : PortState) : (s.setPort x).startUp = s.startUp := rfl
@[simp] theorem State.setPort_failure (x : PortState) : (s.setPort x).failure = s.failure := rfl
@[simp] theorem State.setPort_settling (x : PortState) : (s.setPort x).settling = s.settling := rfl
@[simp] theorem State.setPort_clock (x : PortState) : (s.setPort x).clock = s.clock := rfl
@[simp] theorem State.setPort_cfg (x : PortState) : (s.setPort x).cfg = s.cfg := rfl
@[simp] theorem State.setPort_store (x : PortState) : (s.setPort x).store = s.store := rfl
@[simp] theorem State.setPort_engine (x : PortState) : (s.setPort x).engine = s.engine := rfl
@[simp] theorem State.setPort_gates (x : PortState) : (s.setPort x).gates = s.gates := rfl
@[simp] theorem State.setPort_displays (x : PortState) : (s.setPort x).displays = s.displays := rfl
@[simp] theorem State.setPort_rules (x : PortState) : (s.setPort x).rules = s.rules := rfl
@[simp] theorem State.setPort_panels (x : PortState) : (s.setPort x).panels = s.panels := rfl
@[simp] theorem State.setPort_acq (x : PortState) : (s.setPort x).acq = s.acq := rfl
@[simp] theorem State.setPort_hazard (x : PortState) : (s.setPort x).hazard = s.hazard := rfl
@[simp] theorem State.setPort_bulletin (x : PortState) : (s.setPort x).bulletin = s.bulletin := rfl
@[simp] theorem State.setPort_line (x : PortState) : (s.setPort x).line = s.line := rfl
@[simp] theorem State.setPort_inputs (x : PortState) : (s.setPort x).inputs = s.inputs := rfl
@[simp] theorem State.setPort_faults (x : PortState) : (s.setPort x).faults = s.faults := rfl
@[simp] theorem State.setPort_attention (x : PortState) : (s.setPort x).attention = s.attention := rfl
@[simp] theorem State.setPort_port (x : PortState) :
    (s.setPort x).port = { s.port with state := x } := rfl

/-! ### State.respond -/

@[simp] theorem State.respond_pending (st : Status) (data : List Byte) : (s.respond st data).pending = s.pending := rfl
@[simp] theorem State.respond_told (st : Status) (data : List Byte) : (s.respond st data).told = s.told := rfl
@[simp] theorem State.respond_startUp (st : Status) (data : List Byte) : (s.respond st data).startUp = s.startUp := rfl
@[simp] theorem State.respond_failure (st : Status) (data : List Byte) : (s.respond st data).failure = s.failure := rfl
@[simp] theorem State.respond_settling (st : Status) (data : List Byte) : (s.respond st data).settling = s.settling := rfl
@[simp] theorem State.respond_clock (st : Status) (data : List Byte) : (s.respond st data).clock = s.clock := rfl
@[simp] theorem State.respond_cfg (st : Status) (data : List Byte) : (s.respond st data).cfg = s.cfg := rfl
@[simp] theorem State.respond_store (st : Status) (data : List Byte) : (s.respond st data).store = s.store := rfl
@[simp] theorem State.respond_engine (st : Status) (data : List Byte) : (s.respond st data).engine = s.engine := rfl
@[simp] theorem State.respond_gates (st : Status) (data : List Byte) : (s.respond st data).gates = s.gates := rfl
@[simp] theorem State.respond_displays (st : Status) (data : List Byte) : (s.respond st data).displays = s.displays := rfl
@[simp] theorem State.respond_rules (st : Status) (data : List Byte) : (s.respond st data).rules = s.rules := rfl
@[simp] theorem State.respond_panels (st : Status) (data : List Byte) : (s.respond st data).panels = s.panels := rfl
@[simp] theorem State.respond_acq (st : Status) (data : List Byte) : (s.respond st data).acq = s.acq := rfl
@[simp] theorem State.respond_hazard (st : Status) (data : List Byte) : (s.respond st data).hazard = s.hazard := rfl
@[simp] theorem State.respond_bulletin (st : Status) (data : List Byte) : (s.respond st data).bulletin = s.bulletin := rfl
@[simp] theorem State.respond_line (st : Status) (data : List Byte) : (s.respond st data).line = s.line := rfl
@[simp] theorem State.respond_inputs (st : Status) (data : List Byte) : (s.respond st data).inputs = s.inputs := rfl
@[simp] theorem State.respond_faults (st : Status) (data : List Byte) : (s.respond st data).faults = s.faults := rfl
@[simp] theorem State.respond_attention (st : Status) (data : List Byte) : (s.respond st data).attention = s.attention := rfl
@[simp] theorem State.respond_port (st : Status) (data : List Byte) :
    (s.respond st data).port = { s.port with state := .responding (encodeResponse st data) ((encodeResponse st data).length * charBits s.port.parity * bitUnit) } := rfl

/-! ### Derived readings -/

@[simp] theorem State.take_running (c : Instr) : (s.take c).running = s.running := rfl
@[simp] theorem State.take_minute (c : Instr) : (s.take c).minute = s.minute := rfl
@[simp] theorem State.take_atMinute (c : Instr) : (s.take c).atMinute = s.atMinute := rfl
@[simp] theorem State.take_periodUs (c : Instr) : (s.take c).periodUs = s.periodUs := rfl
@[simp] theorem State.tell_running (cs : List Instr) : (s.tell cs).running = s.running := rfl
@[simp] theorem State.tell_minute (cs : List Instr) : (s.tell cs).minute = s.minute := rfl
@[simp] theorem State.tell_attentionLevel (cs : List Instr) : (s.tell cs).attentionLevel = s.attentionLevel := rfl
@[simp] theorem State.take_attentionLevel (c : Instr) : (s.take c).attentionLevel = s.attentionLevel := rfl
@[simp] theorem State.follow_attentionLevel : s.follow.attentionLevel = s.attentionLevel := rfl

end Sys2Proof.Machine

namespace Sys2Proof

/-! ### Collections -/

@[simp] theorem PerPanel.get_set_self {α : Type} (x : PerPanel α) (p : Panel) (v : α) : (x.set p v).get p = v := by
  cases p <;> rfl

theorem PerPanel.get_set_other {α : Type} (x : PerPanel α) (p q : Panel) (v : α) (h : q ≠ p) :
    (x.set p v).get q = x.get q := by
  cases p <;> cases q <;> first | rfl | exact absurd rfl h

@[simp] theorem PerGate.get_set_self {α : Type} (x : PerGate α) (g : GateId) (v : α) : (x.set g v).get g = v := by
  cases g <;> rfl

theorem PerGate.get_set_other {α : Type} (x : PerGate α) (g h : GateId) (v : α) (ne : h ≠ g) :
    (x.set g v).get h = x.get h := by
  cases g <;> cases h <;> first | rfl | exact absurd rfl ne

@[simp] theorem PerRole.get_set_self {α : Type} (x : PerRole α) (r : Role) (v : α) : (x.set r v).get r = v := by
  cases r <;> rfl

theorem PerRole.get_set_other {α : Type} (x : PerRole α) (r q : Role) (v : α) (h : q ≠ r) :
    (x.set r v).get q = x.get q := by
  cases r <;> cases q <;> first | rfl | exact absurd rfl h

end Sys2Proof
end

