-- ==== Sys2Proof/Laws/Ops.lean ====
section
/-! SUPPORT. What each shared operation does, said once: the frame of a meaning and of a request, one step, the end of a table
change, a record that leaves, a change to a stack, the placing of a claim, a change report, a computation, an entry out of play, a
busy line, and a refused bundle. -/

namespace Sys2Proof.Machine

/-! ## The frame of a meaning -/

/-- A command of a running station has its block's effect once the message is taken. -/
theorem State.event_running (s : State) (c : Instr) (f : State → State) (h : s.running = true) :
    s.event c f = .next (f (s.take c)) := by
  simp [State.event, h]

/-- Outside RUNNING a command of a block only takes its message. -/
theorem State.event_stopped (s : State) (c : Instr) (f : State → State) (h : s.running = false) :
    s.event c f = .next (s.take c) := by
  simp [State.event, h]

/-- Everything a command of a block can do. -/
theorem State.event_next (s t : State) (c : Instr) (f : State → State) (h : s.event c f = .next t) :
    (s.running = true ∧ t = f (s.take c)) ∨ (s.running = false ∧ t = s.take c) := by
  cases hr : s.running
  · rw [s.event_stopped c f hr] at h
    exact .inr ⟨rfl, (Host.Outcome.next.inj h).symm⟩
  · rw [s.event_running c f hr] at h
    exact .inl ⟨rfl, (Host.Outcome.next.inj h).symm⟩

/-- The port takes a request in IDLE, and in SERVING the request that it serves. -/
theorem State.accepts_of (s : State) (c : Instr) (hs : s.startUp ≠ .resetHeld)
    (hp : s.port.state = .idle ∨ s.port.state = .serving c) : s.accepts c = true := by
  rcases hp with hp | hp <;> simp [State.accepts, hs, hp]

/-- A request of a running station that the port takes is handled. -/
theorem State.serve_running (s : State) (c : Instr) (f : State → State) (hr : s.running = true)
    (hp : s.port.state = .idle ∨ s.port.state = .serving c) : s.serve c f = .next (f (s.take c)) := by
  have hs : (s.take c).startUp ≠ .resetHeld := by
    intro e
    simp only [State.take_startUp] at e
    simp [State.running, e] at hr
  have ha : (s.take c).accepts c = true := (s.take c).accepts_of c hs hp
  simp [State.serve, State.serveAlways, ha, hr]

/-- Everything a request can do: it is handled, it is answered NOT_READY, or the port does not take it. -/
theorem State.serve_next (s t : State) (c : Instr) (f : State → State) (h : s.serve c f = .next t) :
    t = f (s.take c) ∨ t = (s.take c).respond .notReady [] ∨ t = s.take c := by
  have e := (Host.Outcome.next.inj h).symm
  split at e
  · dsimp only at e
    split at e
    · exact .inl e
    · exact .inr (.inl e)
  · exact .inr (.inr e)

/-! ## One step -/

/-- A step takes the command at the front of the queue. -/
theorem step_pending (s : State) (c : Instr) (rest : List Instr) (h : s.pending = c :: rest) :
    step s = exec c { s with pending := rest } := by
  simp [step, h]

/-- With no command waiting, a step takes the oldest message. -/
theorem step_told (s : State) (c : Instr) (rest : List Instr) (hp : s.pending = []) (h : s.told = c :: rest) :
    step s = exec c s := by
  simp [step, hp, h]

/-- With nothing waiting, a step is one microsecond. -/
theorem step_tick (s : State) (hp : s.pending = []) (h : s.told = []) : step s = .next s.tick := by
  simp [step, hp, h]

/-- One microsecond changes only the clock, the line, the row slots, the port and the messages. -/
theorem State.runClock_frame (s : State) :
    { s.runClock with clock := s.clock, line := s.line, panels := s.panels, port := s.port } = s := by
  unfold State.runClock
  split <;> rfl

/-! ## A table change -/

/-- A pending set that is replaced changes only the engine's catch-up fields. -/
theorem State.setPending_frame (s : State) (ks : List NoticeKey) :
    { s.setPending ks with
      engine := { (s.setPending ks).engine with
        catchUp := s.engine.catchUp, pendingSet := s.engine.pendingSet, tickAt := s.engine.tickAt } } = s := by
  unfold State.setPending
  split <;> rfl

@[simp] theorem State.setPending_table (s : State) (ks : List NoticeKey) :
    (s.setPending ks).engine.table = s.engine.table := by
  unfold State.setPending
  split <;> rfl

@[simp] theorem State.setPending_map (s : State) (ks : List NoticeKey) :
    (s.setPending ks).engine.map = s.engine.map := by
  unfold State.setPending
  split <;> rfl

/-- The end of a table change leaves the table. -/
@[simp] theorem State.commit_table (s : State) : s.commit.engine.table = s.engine.table := by
  simp [State.commit]

/-- After a table change the section map is the one of the table. -/
@[simp] theorem State.commit_map (s : State) : s.commit.engine.map = sectionMap s.engine.table := by
  simp [State.commit]

/-- The end of a table change touches the engine and the messages only. -/
theorem State.commit_frame (s : State) : { s.commit with engine := s.engine, told := s.told } = s := by
  unfold State.commit State.setPending
  dsimp only
  split <;> rfl

/-- A change report touches the messages only. -/
theorem State.report_frame (s : State) (b a : Option Notice) (c : ChangeCause) :
    { s.report b a c with told := s.told } = s := by
  unfold State.report
  split
  · split
    · split <;> rfl
    · rfl
  · rfl

/-- What a change report leaves, its messages written out of it. -/
theorem State.report_told (s : State) (b a : Option Notice) (c : ChangeCause) :
    s.report b a c = { s with told := (s.report b a c).told } := by
  unfold State.report
  split
  · split
    · split <;> rfl
    · rfl
  · rfl

@[simp] theorem State.report_engine (s : State) (b a : Option Notice) (c : ChangeCause) :
    (s.report b a c).engine = s.engine := by
  have h := congrArg State.engine (s.report_frame b a c)
  exact h

/-- A request for a frame touches the transmit queue and, where it is refused, an early-refresh mark. -/
theorem State.requestFrame_cases (s : State) (i : Nat) (purpose : Purpose) (hop : Nat) :
    s.requestFrame i purpose hop = s ∨ (∃ l, s.requestFrame i purpose hop = s.setLine l) ∨
      ∃ r, recordAt s.engine.table i = some r ∧
        s.requestFrame i purpose hop = s.setSlot i (some { r with early := true }) := by
  unfold State.requestFrame
  split
  · rename_i r hr
    split
    · exact .inr (.inl ⟨_, rfl⟩)
    · exact .inr (.inr ⟨r, hr, rfl⟩)
  · exact .inl rfl

/-- A request for a frame touches the engine's table and the line only. -/
theorem State.requestFrame_frame (s : State) (i : Nat) (purpose : Purpose) (hop : Nat) :
    { s.requestFrame i purpose hop with engine := s.engine, line := s.line } = s := by
  rcases s.requestFrame_cases i purpose hop with h | ⟨l, h⟩ | ⟨r, -, h⟩ <;> rw [h] <;> rfl

@[simp] theorem State.requestFrame_map (s : State) (i : Nat) (purpose : Purpose) (hop : Nat) :
    (s.requestFrame i purpose hop).engine.map = s.engine.map := by
  rcases s.requestFrame_cases i purpose hop with h | ⟨l, h⟩ | ⟨r, -, h⟩ <;> rw [h] <;> rfl

/-- A record that leaves: its slot is free, its key is not pending, its unstarted frame is withdrawn, and only the messages
change besides. -/
theorem State.leave_cases (s : State) (i : Nat) (cause : ChangeCause) :
    (recordAt s.engine.table i = none ∧ s.leave i cause = s) ∨
      ∃ r told, recordAt s.engine.table i = some r ∧
        s.leave i cause = { s with
          engine := { s.engine with
            table := s.engine.table.set i none
            pendingSet := s.engine.pendingSet.filter (· ≠ r.notice.key) }
          line := s.line.withdrawGone r.notice.key
          told := told } := by
  unfold State.leave
  split
  · rename_i r hr
    exact .inr ⟨r, _, hr, State.report_told _ _ _ _⟩
  · rename_i hr
    exact .inl ⟨hr, rfl⟩

/-! ## The stacks -/

/-- A change to one stack touches the stacks and the messages only. -/
theorem State.changeStack_frame (s : State) (p : Panel) (f : List Claim → List Claim) :
    { s.changeStack p f with displays := s.displays, told := s.told } = s := by
  unfold State.changeStack
  split
  · dsimp only
    split <;> rfl
  · rfl

/-- A change to a configured panel's stack leaves the claims it asks for. -/
theorem State.changeStack_claims (s : State) (p : Panel) (f : List Claim → List Claim)
    (h : (s.cfg.panels.get p).isSome = true) :
    ((s.changeStack p f).displays.get p).claims = f (s.displays.get p).claims := by
  unfold State.changeStack
  simp only [h, if_true]
  split <;> simp

/-- A change to one panel's stack leaves the others. -/
theorem State.changeStack_other (s : State) (p q : Panel) (f : List Claim → List Claim) (h : q ≠ p) :
    (s.changeStack p f).displays.get q = s.displays.get q := by
  unfold State.changeStack
  split
  · dsimp only
    split <;> simp [PerPanel.get_set_other _ _ _ _ h]
  · rfl

/-- The claims of a stack into which one has been inserted. -/
theorem mem_insertClaim (c x : Claim) (xs : List Claim) : x ∈ insertClaim c xs ↔ x = c ∨ x ∈ xs := by
  induction xs with
  | nil => simp [insertClaim]
  | cons y ys ih =>
    unfold insertClaim
    split
    · simp
    · simp only [List.mem_cons, ih]
      tauto

/-- A stack into which a claim is inserted is a rearrangement of the claim and the stack. -/
theorem insertClaim_perm (c : Claim) (xs : List Claim) : (insertClaim c xs).Perm (c :: xs) := by
  induction xs with
  | nil => exact List.Perm.refl _
  | cons y ys ih =>
    unfold insertClaim
    split
    · exact List.Perm.refl _
    · exact (List.Perm.cons y ih).trans (List.Perm.swap c y ys)

/-- A withdrawn identity stands nowhere in the stack. -/
theorem withdrawClaim_gone (id : ClaimId) (xs : List Claim) : ∀ c ∈ withdrawClaim id xs, c.id ≠ id := by
  intro c h
  simpa [withdrawClaim] using (List.mem_filter.mp h).2

/-! ## The transmit queue -/

/-- Bringing the access wait into line leaves the frames asked for, and the started frame. -/
@[simp] theorem Line.requeue_waiting (l : Line) (w : List Frame) (again : Bool) :
    (l.requeue w again).waiting = w := by
  unfold Line.requeue
  split <;> rfl

@[simp] theorem Line.requeue_started (l : Line) (w : List Frame) (again : Bool) :
    (l.requeue w again).started = l.started := by
  unfold Line.requeue
  cases h : l.tx <;> simp only [Line.started, h]
  · by_cases hw : w.isEmpty = true <;> simp [hw]
  · by_cases hw : w.isEmpty = true
    · simp [hw]
    · by_cases ha : (again || Option.map Frame.key w.head? != Option.map Frame.key l.waiting.head?) = true <;>
        simp [hw, ha]

/-- The end of quiet time discards a frame that it has ended, and otherwise changes nothing. -/
theorem State.endGap_cases (s : State) :
    (s.line.gapRun = false ∧ s.endGap = s) ∨ (s.line.gapRun = true ∧ s.endGap = s.discardTruncated) := by
  unfold State.endGap
  cases h : s.line.gapRun <;> simp

/-- While the quiet time has ended no frame, a busy indication only starts the counts again. -/
theorem State.lineBusy_quiet (s : State) (h : s.line.gapRun = false) :
    s.lineBusy = { s with line := s.line.busyNow } := by
  simp [State.lineBusy, State.endGap, h]

/-! ## Reports and the peer table -/

/-- Effective levels that are worked out afresh change the hazard records and the messages only. -/
theorem State.recomputeEffective_frame (s : State) :
    s.recomputeEffective = { s with hazard := s.recomputeEffective.hazard, told := s.recomputeEffective.told } := by
  unfold State.recomputeEffective
  dsimp only
  split <;> rfl

/-- A report that is read changes the hazard records and the messages only. -/
theorem State.hearReport_frame (s : State) (r : ChangeReport) :
    s.hearReport r = { s with hazard := (s.hearReport r).hazard, told := (s.hearReport r).told } := by
  unfold State.hearReport State.readReport
  split
  · split
    · split <;> rfl
    · split
      · rw [State.recomputeEffective_frame]
        rfl
      · rfl
  · rfl

/-- With no report waiting, none is read. -/
theorem State.hearReports_none (s : State) (h : s.told.filterMap reportOf = []) : s.hearReports = s := by
  simp [State.hearReports, h]

/-! ## A computation -/

/-- What changes the hazard records and the messages only, done for each item of a list, changes those only. -/
theorem foldl_hazard_frame {α : Type} (f : State → α → State)
    (h : ∀ s x, f s x = { s with hazard := (f s x).hazard, told := (f s x).told }) (xs : List α) (s : State) :
    xs.foldl f s = { s with hazard := (xs.foldl f s).hazard, told := (xs.foldl f s).told } := by
  induction xs generalizing s with
  | nil => rfl
  | cons x xs ih => rw [List.foldl_cons, ih, h]

/-- The issue test of a path changes the hazard records and the messages only. -/
theorem State.issueTest_frame (s : State) (i : Nat) :
    s.issueTest i = { s with hazard := (s.issueTest i).hazard, told := (s.issueTest i).told } := by
  unfold State.issueTest
  repeat' split
  all_goals rfl

/-- A lift that is asked for changes the hazard records and the messages only. -/
theorem State.askLift_frame (s : State) (i : Nat) (n : Option Notice) :
    s.askLift i n = { s with hazard := (s.askLift i n).hazard, told := (s.askLift i n).told } := by
  cases n <;> rfl

/-- The lift test of a path changes the hazard records and the messages only. -/
theorem State.liftTest_frame (s : State) (i : Nat) :
    s.liftTest i = { s with hazard := (s.liftTest i).hazard, told := (s.liftTest i).told } := by
  unfold State.liftTest
  split
  · exact State.askLift_frame ..
  · rfl

/-- The test for a second record of a path changes the hazard records and the messages only. -/
theorem State.secondTest_frame (s : State) (i : Nat) :
    s.secondTest i = { s with hazard := (s.secondTest i).hazard, told := (s.secondTest i).told } := by
  unfold State.secondTest
  split
  · exact State.askLift_frame ..
  · rfl

/-- A computation changes the hazard records and the messages only (R131, R141). -/
theorem State.compute_frame (s : State) :
    s.compute = { s with hazard := s.compute.hazard, told := s.compute.told } := by
  unfold State.compute
  dsimp only
  rw [foldl_hazard_frame _ State.secondTest_frame, foldl_hazard_frame _ State.liftTest_frame,
    foldl_hazard_frame _ State.issueTest_frame, State.recomputeEffective_frame]
  rfl

/-- The computation of a minute boundary or after an append, with the reports it reads first, changes the hazard records and
the messages only (R131, R148). -/
theorem State.hearAndCompute_frame (s : State) :
    s.hearAndCompute = { s with hazard := s.hearAndCompute.hazard, told := s.hearAndCompute.told } := by
  have h : s.hearReports = { s with hazard := s.hearReports.hazard, told := s.hearReports.told } := by
    refine foldl_hazard_frame _ (fun s r => ?_) _ s
    rw [State.hearReport_frame]
    rfl
  unfold State.hearAndCompute
  rw [State.compute_frame, h]

/-! ## Bundles -/

/-- A refused bundle changes nothing but the port, which answers (R34). -/
theorem State.takeBundle_refused (s : State) (requested : Nat) (acts : List OrderAction) (i : Nat) (r : Reason)
    (h : s.judge requested acts = some (i, r)) :
    s.takeBundle requested acts = s.respond .refused [byte i, byte r.code] := by
  simp [State.takeBundle, h, State.refuse]

/-- A bundle whose checks all pass is applied and answered OK. -/
theorem State.takeBundle_passed (s : State) (requested : Nat) (acts : List OrderAction)
    (h : s.judge requested acts = none) :
    s.takeBundle requested acts =
      (s.applyBundle (s.effective requested) acts).1.respond .ok
        ((s.applyBundle (s.effective requested) acts).2.flatMap fun k => [byte k.origin, byte k.number]) := by
  simp [State.takeBundle, h]

end Sys2Proof.Machine
end

