-- ==== Sys2Proof/Tests/Station.lean ====
section
/-! SUPPORT. A small station for the tests: station 13 with one panel, one gate, a few sensors and one path. -/

namespace Sys2Proof.Tests

open Machine

/-- Panel A: 8 rows of 48 columns, the brightness thresholds of the example of chapter 5. -/
def panelA : PanelCfg where
  rows := 8
  columns := 48
  flashOn := 10
  flashOff := 5
  steps := [⟨100, 0⟩, ⟨150, 40⟩, ⟨200, 90⟩, ⟨300, 160⟩, ⟨400, 250⟩, ⟨600, 400⟩, ⟨800, 600⟩, ⟨1000, 850⟩]
  band := 30
  firstCover := 12
  lastCover := 20
  defaults := { fullClosure := some 1, convoy := some 2 }
  pathMask := [.ours 0]
  weatherMask := [0]
  gateAhead := some ⟨14, 0, 5⟩

/-- Gate 0 guards section 14 and warns on panel A. -/
def gate0 : GateCfg where
  guarded := 14
  entry := .ascending
  approach := ⟨true, false, false⟩
  descriptor := 4
  preWarning := 60
  motionLimit := 20
  beamClear := 5
  onConvoy := true

/-- One local path, with the weights and thresholds of no example of the manual. -/
def path0 : PathCfg where
  number := 7
  wN := 4
  wW := 8
  wT := 4
  wA := 10
  tW := 100
  tR := 250
  tC := 400
  band := 20
  hold := 30
  action := .fullClosure
  firstSec := 13
  lastSec := 15
  message := none
  warnDesc := 6
  closeDesc := 7

/-- The descriptors: eight messages of one line, each allowed on panel A. -/
def messages : List DescriptorCfg :=
  (List.range 8).map fun i =>
    { base := 16 * i, limit := 7, granularity := .cell, postLevel := 2, flash := false, mask := ⟨true, false, false⟩,
      field := if i = 3 then some ⟨.roadTemp, 2, 3⟩ else none }

/-- The configuration of the station. -/
def cfg : StationCfg where
  station := 13
  home := 14
  scanList := [⟨0, some .roadTemp, 15, 0, 1024, 0, 2⟩, ⟨1, none, 15, 0, 0, 0, 0⟩]
  paths := [path0]
  remotes := [⟨9, 6, 7⟩]
  rules := [⟨.roadTemp, .atOrBelow, 0, 20, 3, ⟨true, false, false⟩, 5⟩]
  text := (List.replicate 128 0x41#8)
  descriptors := messages
  panels := ⟨some panelA, none, none⟩
  gates := ⟨some gate0, none⟩
  inputs := [⟨.gateUp .g0, 20, .none, false⟩, ⟨.gateDown .g0, 20, .none, false⟩, ⟨.beam .g0, 20, .rising, false⟩,
    ⟨.keyBit0, 50, .none, false⟩, ⟨.keyBit1, 50, .none, false⟩, ⟨.slidePulse, 5, .rising, true⟩,
    ⟨.panelSense .a, 0, .none, false⟩, ⟨.lineCarrier, 0, .none, false⟩]
  faultEnables := List.replicate 14 true

/-- A station in LOADING with its arm up and its key at DEPOT. -/
def loading : State :=
  { State.reset with
    startUp := .loading
    inputs := [Input.reset true, Input.reset false, Input.reset false, Input.reset true, Input.reset true] ++
      List.replicate 11 (Input.reset false) }

/-- The station just after RUNNING entry, its settle period over and its messages taken. -/
def running : State := { loading.enterRunning cfg with told := [], settling := false, clock := 5000000 }

/-- A notice of another station. -/
def closure : Notice where
  origin := 12
  number := 7
  version := 0
  amender := 12
  state := .inForce
  kind := .fullClosure
  cause := .works
  level := 2
  firstSec := 12
  lastSec := 20
  message := none
  pathTag := none

/-- The station holding that notice, with its section map. -/
def closed : State :=
  let t := (none :: some (newRecord closure 0 3 0) :: List.replicate 30 none)
  { running with engine := { running.engine with table := t, map := sectionMap t } }

end Sys2Proof.Tests
end

