-- ==== Sys2Proof/Tests/Slice0.lean ====
section
/-! SUPPORT. The model's own tests: an ill-formed command for each check of `Instr.wellFormed`, values that the manual's own
tables give, one step of a few commands, and for each statement with hypotheses a state and operands that meet them. -/

namespace Sys2Proof.Tests

set_option Elab.async false

open Machine Safety

/-! ## Ill-formed commands are refused -/

/-- A configuration image with a header of a wrong length. -/
def shortHeader : Image := ⟨[0xA5#8], [], List.replicate 11 0, 0, {}⟩

theorem test_illformed_image : (Instr.loadingEnd shortHeader).wellFormed = false := by decide
theorem test_illformed_image_sections :
    (Instr.loadingEnd ⟨List.replicate 8 0#8, [], [], 0, {}⟩).wellFormed = false := by decide
theorem test_illformed_issue_level : (Instr.issue 256 0 0 0 0 0 none).wellFormed = false := by decide
theorem test_illformed_issue_message : (Instr.issue 0 0 0 0 0 0 (some 255)).wellFormed = false := by decide
theorem test_illformed_issue_remaining : (Instr.issue 0 0 0 0 0 65536 none).wellFormed = false := by decide
theorem test_illformed_amend : (Instr.amend 0 1 256 0 0 0 0 none).wellFormed = false := by decide
theorem test_illformed_lift : (Instr.lift 0 1 256).wellFormed = false := by decide
theorem test_illformed_post : (Instr.post 0 0 0 0 65536).wellFormed = false := by decide
theorem test_illformed_clear_post : (Instr.clearPost 0 256).wellFormed = false := by decide
theorem test_illformed_gate_actions :
    (Instr.holdOpen 0 256).wellFormed = false ∧ (Instr.holdClosed 256 0).wellFormed = false ∧
    (Instr.release 0 256).wellFormed = false ∧ (Instr.forceClose 0 256).wellFormed = false ∧
    (Instr.clearFault 0 256).wellFormed = false ∧ (Instr.restart 256).wellFormed = false := by decide
theorem test_illformed_reads :
    (Instr.readNoticeBySlot 256).wellFormed = false ∧ (Instr.readNoticeByKey 1 256).wellFormed = false ∧
    (Instr.readSectionMapEntry 256).wellFormed = false ∧ (Instr.readPeerEntry 256).wellFormed = false ∧
    (Instr.readLocalPath 256).wellFormed = false ∧ (Instr.readRemotePath 256).wellFormed = false ∧
    (Instr.readRingRecord 256).wellFormed = false ∧ (Instr.readSensorRole 256).wellFormed = false ∧
    (Instr.readDescriptor 256).wellFormed = false ∧ (Instr.readPanel 256).wellFormed = false ∧
    (Instr.readGate 256).wellFormed = false := by decide
theorem test_illformed_events :
    (Instr.gateAheadClaim 61).wellFormed = false ∧ (Instr.accessedMark 64).wellFormed = false ∧
    (Instr.renderTrigger .a (some ⟨⟨.notice, 64, 0⟩, [], false⟩)).wellFormed = false ∧
    (Instr.renderTrigger .a (some ⟨⟨.hazard (.ours 4), 1, 0⟩, [], false⟩)).wellFormed = false ∧
    (Instr.renderTrigger .a (some ⟨⟨.weather 8, 1, 0⟩, [], false⟩)).wellFormed = false ∧
    (Instr.brightnessEvaluation .a 1024).wellFormed = false ∧
    (Instr.scanComplete (List.replicate 13 0#12)).wellFormed = false ∧
    (Instr.automaticIssue 4).wellFormed = false ∧ (Instr.automaticLift 4).wellFormed = false ∧
    (Instr.periodBoundary 16).wellFormed = false ∧ (Instr.terminalLevelChange 16 true).wellFormed = false ∧
    (Instr.debounceExpiry 16).wellFormed = false := by decide
theorem test_illformed_report :
    (Instr.noticeChangeReport ⟨4, ⟨1, 0⟩, none, none, .order⟩).wellFormed = false ∧
    (Instr.noticeChangeReport ⟨0, ⟨61, 0⟩, none, none, .order⟩).wellFormed = false ∧
    (Instr.noticeChangeReport ⟨0, ⟨1, 0⟩, none, some (.inForce, 4), .order⟩).wellFormed = false := by decide
theorem test_illformed_order : (Instr.order (List.replicate 120 0#8)).wellFormed = false := by decide
theorem test_illformed_action : (OrderAction.issue 0 0 0 256 0 none).wellFormed = false := by decide
theorem test_illformed_bulletin :
    (Bulletin.wellFormed ⟨32, false, false, false, false, none, none, none, none, 0, [], []⟩) = false ∧
    (Bulletin.wellFormed ⟨0, false, false, false, false, some 501, none, none, none, 0, [], []⟩) = false := by decide

/-- No word spells a command (log 15). -/
theorem test_no_word (nbits w : Nat) : decodeTableWord nbits w = none := rfl

/-! ## Values of the manual's own tables -/

/-- The formatting examples of chapter 4. -/
theorem test_formatting :
    writeNumber 3 (shownNumber .roadTemp (-25)) = [0x20#8, 0x2D#8, 0x33#8] ∧
    writeNumber 3 (shownNumber .airTemp 25) = [0x20#8, 0x20#8, 0x33#8] ∧
    writeNumber 3 (shownNumber .airTemp (-4)) = [0x20#8, 0x20#8, 0x30#8] ∧
    writeNumber 2 (shownNumber .airTemp (-5)) = [0x2D#8, 0x31#8] ∧
    writeNumber 2 (shownNumber .roadTemp (-150)) = [0x2D#8, 0x39#8] ∧
    writeNumber 3 (shownNumber .wind 126) = [0x20#8, 0x34#8, 0x35#8] ∧
    writeNumber 2 (shownNumber .wind 600) = [0x39#8, 0x39#8] ∧
    writeNumber 2 (shownNumber .newSnow 38) = [0x33#8, 0x38#8] := by decide

/-- The brightness example of chapter 5. -/
theorem test_brightness :
    newStep panelA 620 0 = 6 ∧ newStep panelA 590 6 = 6 ∧ newStep panelA 500 6 = 5 ∧ newStep panelA 100 5 = 2 ∧
    newStep panelA 0 2 = 0 := by decide

/-- The layout examples of chapter 5: a line of 11 cells, and 9 cells on a panel of 8. -/
theorem test_layout :
    layText { panelA with columns := 96 } (List.replicate 11 0x41#8) = [⟨0, 2, List.replicate 11 0x41#8⟩] ∧
    layText panelA (List.replicate 7 0x41#8 ++ [0x81#8]) = [⟨0, 0, List.replicate 7 0x41#8⟩] := by decide

/-- The skews of chapter 8. -/
theorem test_skew :
    skewUs { cfg with station := 11, bulletinPeriod := 60 } = 41250000 ∧
    skewUs { cfg with station := 14, bulletinPeriod := 60 } = 52500000 ∧
    skewUs { cfg with station := 16, bulletinPeriod := 60 } = 0 ∧
    skewUs { cfg with station := 17, bulletinPeriod := 10 } = 625000 ∧
    skewUs { cfg with station := 33, bulletinPeriod := 60 } = 3750000 := by decide

/-- The path of the worked case of chapter 7. -/
def workedPath : PathCfg := { path0 with wN := 6, wW := 4, wT := 3, wA := 10, tW := 150, tR := 300, tC := 500, band := 40 }

/-- The worked case of chapter 7: the index 296 is at WATCH, and one more pulse makes 306, at WARN with falling point 260. -/
theorem test_worked_case :
    (PathRec.reset.rate workedPath 38 46 46 4).index = 296 ∧
    ((PathRec.reset.rate workedPath 38 46 46 4).move workedPath false 100).level = .watch ∧
    (PathRec.reset.rate workedPath 38 46 46 5).index = 306 ∧
    ((PathRec.reset.rate workedPath 38 46 46 5).move workedPath false 100).level = .warn ∧
    fallingPoint workedPath .warn = some 260 := by decide

/-- A calibrated value is worked out with floor division and clamped (R118). -/
theorem test_calibration :
    calibrate .roadTemp ⟨0, some .roadTemp, 0, 100, -1, 0, 0⟩ 101 = -1 ∧
    calibrate .light ⟨0, some .light, 0, 0, 1024, 0, 0⟩ 4000 = 1023 := by decide

/-- A filtered value moves by the floor of its share of the difference (R119). -/
theorem test_filter : filterStep ⟨.valid, some 10, none, 0, none⟩ 2 9 = 9 ∧
    filterStep ⟨.unmeasured, none, none, 0, some 0⟩ 2 9 = 9 := by decide

/-- The gaps of line access (R169): 12 and 48 bit-times and 3 for each step of the access slot. -/
theorem test_gap :
    (Frame.gap ⟨.notice closure 0 .relay, 0, 0, 11⟩) = 45 ∧
    (Frame.gap ⟨.bulletin ⟨0, false, false, false, false, none, none, none, none, 0, [], []⟩, 0, 0, 14⟩) = 90 := by
  decide

/-! ## One step of a few commands -/

/-- What a step leaves, in a property; false where it does not answer a next state. -/
def after (o : Host.Outcome State Fault Refusal) (f : State → Bool) : Bool :=
  match o with
  | .next t => f t
  | .fault .. => false
  | .refused .. => false

/-- The station with a frame of the closure waiting in its notice inbox. -/
def receiving (n : Notice) (hop : Nat) (s : State) : State :=
  { s with line := { s.line with noticeInbox := [⟨12, hop, encodeNotice n 0⟩] } }

/-- A notice frame taken governs its sections, its relay waits with one hop less, and the claim is to follow. -/
theorem test_notice_frame :
    after (exec .noticeFrameTaken (receiving closure 3 running)) (fun t =>
      t.mapKind 14 == some .fullClosure && (t.line.waiting.map fun f => f.hop) == [2] &&
      t.told == [.demandReevaluation .g0, .noticeClaim]) = true := by decide +kernel

/-- A closure makes an AUTO gate go to WARNING and ask for its claims. -/
theorem test_gate_warns :
    after (exec (.demandReevaluation .g0) closed) (fun t =>
      t.gates.g0.state == .warning && t.gates.g0.warnEntry == some 5000000 && t.gates.g0.flasher &&
      t.told == [.gateClaimRequest .g0 .place]) = true := by decide +kernel

/-- The NOTICE claim of a closure leads its panel at priority 14 with the panel's default message. -/
theorem test_notice_claim :
    after (exec .noticeClaim closed) (fun t =>
      t.displays.a.claims == [⟨.notice, 1, 14, 5000000, none, none⟩]) = true := by decide +kernel

/-- An order at a weaker key than DEPOT's cannot force a gate closed (R45). -/
theorem test_force_close_level :
    after (exec (.forceClose 1 0) running) (fun t =>
      t.port == (running.respond .refused [1#8, 7#8]).port && t.gates == running.gates) = true := by decide +kernel

/-! ## States that meet the hypotheses of the statements -/

/-- A running station whose port is idle takes any request. -/
theorem running_serves (c : Instr) : Serves running c := ⟨rfl, .inl rfl⟩

/-- A running station that serves a request. -/
def serving (c : Instr) : State := { running with port := { running.port with state := .serving c } }

theorem serving_serves (c : Instr) : Serves (serving c) c := ⟨rfl, .inr rfl⟩

theorem witness_StepWithNoCommandWaiting :
    running.pending = [] ∧ running.told = [] ∧ { running with told := [.noticeClaim] }.pending = [] ∧
    { running with told := [.noticeClaim] }.told = .noticeClaim :: [] ∧ State.reset.startUp = .resetHeld :=
  ⟨rfl, rfl, rfl, rfl, rfl⟩

/-- A microsecond before its refresh tick the station runs, and the tick then waits; in LOADING the port's gap runs out (R26,
R181). -/
theorem test_events_fall_due :
    after (step { running with engine := { running.engine with tickAt := some 5000001 } })
      (fun t => t.clock == 5000001 && t.told.contains .refreshTick && !t.told.contains .bulletinTime) = true ∧
    after (step { loading with port := { loading.port with state := .receiving [0x3C#8] 50000 } })
      (fun t => t.clock == loading.clock && t.told == [.requestGapTimeout]) = true := by decide +kernel

/-- An image that passes every check: eleven empty sections. -/
def goodImage : Image where
  header := [0xA5#8, 0x3C#8, 0x69#8, 0x0E#8, 0#8, 22#8, 0#8, 0#8]
  body := List.replicate 22 0#8
  used := List.replicate 11 0
  unlisted := 0
  fields := cfg

theorem witness_RunningEntry : loading.startUp = .loading ∧ goodImage.failure = none ∧ goodImage.wellFormed = true :=
  ⟨rfl, by decide +kernel, rfl⟩

/-- The four readings of the limits of a gate at RUNNING entry, each in some station in LOADING. -/
def limits (up down : Bool) : State :=
  { loading with inputs := [Input.reset up, Input.reset down] ++ List.replicate 14 (Input.reset false) }

theorem witness_RunningEntry_limits : ∀ up down : Bool,
    (limits up down).startUp = .loading ∧
    after (exec (.loadingEnd goodImage) (limits up down)) (fun t => t.up .g0 == up && t.down .g0 == down) = true := by
  decide +kernel

/-- The port in each of its states at RUNNING entry, and a descriptor whose span passes its check. -/
theorem witness_RunningEntry_port :
    (∀ x ∈ [PortState.idle, .serving .status, .receiving [1#8] 5, .responding [1#8] 0],
      { loading with port := { loading.port with state := x } }.startUp = .loading) ∧
    goodImage.fields.descriptors[3]? = messages[3]? ∧ goodImage.fields.scanList ≠ [] := by decide +kernel

theorem witness_LoadingStartsAndFails :
    State.reset.startUp = .resetHeld ∧ loading.startUp = .loading ∧
    { goodImage with header := List.replicate 8 0#8 }.failure = some .marker ∧
    { goodImage with header := goodImage.header.set 4 0x41#8 }.failure = some .length ∧
    { goodImage with header := goodImage.header.set 7 1#8 }.failure = some .sum ∧
    { goodImage with used := [] }.failure = some .sections ∧
    { goodImage with unlisted := 1 }.failure = some .range ∧
    { goodImage with fields := { cfg with paths := [{ path0 with tC := 250 }] } }.failure = some .order ∧
    { goodImage with fields := { cfg with remotes := [⟨7, 6, 7⟩] } }.failure = some .unique ∧
    { goodImage with fields := { cfg with paths := [], remotes := [] } }.failure = some .panel ∧
    { goodImage with fields := { cfg with inputs := [] } }.failure = some .gate := by
  refine ⟨rfl, rfl, ?_⟩
  decide +kernel

/-- The bulletin period is 10 to 600 s (R151, R187), and the sections fill the length, each content in exactly its bytes (R187).
-/
theorem test_image_bounds :
    ([9, 10, 600, 601].map fun u => { goodImage with fields := { cfg with bulletinPeriod := u } }.rangeGood) =
      [false, true, true, false] ∧
    sectionLengths 2 [0#8, 1#8, 7#8, 0#8, 0#8] = some [1, 0] ∧ sectionLengths 2 [0#8, 1#8, 7#8, 0#8] = none ∧
    sectionLengths 2 [0#8, 0#8, 0#8, 0#8, 7#8] = none := by decide +kernel

/-- The end of the settle period: three periods of 60 s. -/
def settled : State := { running with settling := true, clock := 180000000 }

theorem witness_SettleEnd :
    settled.startUp = .running ∧ settled.settling = true ∧ 3 * settled.periodUs ≤ settled.clock ∧
    settled.cfg.gates.get .g0 = some gate0 ∧ settled.cfg.gates.get .g1 = none := ⟨rfl, rfl, by decide +kernel, rfl, rfl⟩

/-! ### Notice frames -/

/-- The record the test station holds in slot 1. -/
def heldRecord : NoticeRecord := newRecord closure 0 3 0

/-- The test station with a notice table. -/
def holding (t : List (Option NoticeRecord)) : State :=
  { running with engine := { running.engine with table := t, map := sectionMap t } }

/-- A table with no room: 32 full closures IN_FORCE. -/
def fullTable : List (Option NoticeRecord) :=
  (List.range 32).map fun i => some (newRecord { closure with number := 100 + i } 0 3 0)

/-- A tombstone. -/
def tombstone (number time : Nat) : NoticeRecord :=
  { heldRecord with notice := { closure with number := number, state := .lifted }, tombstone := some time }

/-- An ADVISORY record IN_FORCE. -/
def advisory (number : Nat) (expiry : Option Nat) : NoticeRecord :=
  { heldRecord with notice := { closure with number := number, kind := .advisory }, expiry := expiry }

/-- A full table with three tombstones, two of them of the earliest time. -/
def tombTable : List (Option NoticeRecord) :=
  ((fullTable.set 4 (some (tombstone 104 3))).set 9 (some (tombstone 109 1))).set 11 (some (tombstone 111 1))

/-- A full table with no tombstone and two ADVISORY records. -/
def advisoryTable : List (Option NoticeRecord) :=
  (fullTable.set 5 (some (advisory 105 none))).set 6 (some (advisory 106 (some 50)))

/-- Each of the four tables has the room that the statements suppose: a free slot, a tombstone or an ADVISORY record to evict,
and none. -/
def RoomOfEach : Prop :=
  Room running.engine.table [] 0 none ∧ Room tombTable [] 9 (some (tombstone 109 1)) ∧
  Room advisoryTable [] 6 (some (advisory 106 (some 50))) ∧ NoRoom fullTable []

theorem room_of_each : RoomOfEach :=
  ⟨by show _ = _; decide +kernel, ⟨by decide +kernel, by unfold Evicted GoesFirst; decide +kernel⟩,
    ⟨by decide +kernel, by unfold Evicted GoesFirst; decide +kernel⟩, by unfold NoRoom; decide +kernel⟩

theorem witness_NewCopyStored :
    (∀ hop ∈ [0, 3], ∀ t ∈ [running.engine.table, tombTable, advisoryTable, fullTable],
    (receiving closure hop (holding t)).startUp = .running ∧
    (receiving closure hop (holding t)).line.noticeInbox = ⟨12, hop, encodeNotice closure 0⟩ :: [] ∧
    decodeNotice (encodeNotice closure 0) = some (closure, 0) ∧
    slotOf (receiving closure hop (holding t)).engine.table closure.key = none) ∧ RoomOfEach :=
  ⟨by decide +kernel, room_of_each⟩

/-- A later version of the closure. -/
def amendedClosure : Notice := { closure with version := 1 }

theorem witness_ReplacedCopy : ∀ hop ∈ [0, 3],
    (receiving amendedClosure hop closed).startUp = .running ∧
    (receiving amendedClosure hop closed).line.noticeInbox = ⟨12, hop, encodeNotice amendedClosure 0⟩ :: [] ∧
    decodeNotice (encodeNotice amendedClosure 0) = some (amendedClosure, 0) ∧
    slotOf (receiving amendedClosure hop closed).engine.table amendedClosure.key = some 1 ∧
    recordAt (receiving amendedClosure hop closed).engine.table 1 = some heldRecord ∧
    precedence amendedClosure heldRecord.notice = .received := by decide +kernel

/-- A relay of the closure waiting with a budget of 2. -/
def relaying : State :=
  { closed with line := { closed.line with waiting := [⟨.notice closure 0 .relay, 2, 0, 13⟩], tx := .waitGap 5 } }

theorem witness_DuplicateCopy : ∀ s ∈ [closed, relaying],
    (receiving closure 3 s).startUp = .running ∧
    (receiving closure 3 s).line.noticeInbox = ⟨12, 3, encodeNotice closure 0⟩ :: [] ∧
    decodeNotice (encodeNotice closure 0) = some (closure, 0) ∧
    slotOf (receiving closure 3 s).engine.table closure.key = some 1 ∧
    recordAt (receiving closure 3 s).engine.table 1 = some heldRecord ∧
    closure.version = heldRecord.notice.version ∧ closure.level = heldRecord.notice.level ∧
    closure.amender = heldRecord.notice.amender := by decide +kernel

theorem witness_DuplicateCopy_suppression :
    relaying.line.waiting.any
      (fun g => g.key = some closure.key && g.purpose = some .relay && decide (g.hop ≤ 3)) = true ∧
    closed.line.waiting.any
      (fun g => g.key = some closure.key && g.purpose = some .relay && decide (g.hop ≤ 3)) = false := by decide +kernel

/-- A weaker copy of the closure. -/
def weakerClosure : Notice := { closure with level := 3 }

theorem witness_StaleCopy :
    (receiving weakerClosure 3 closed).startUp = .running ∧
    (receiving weakerClosure 3 closed).line.noticeInbox = ⟨12, 3, encodeNotice weakerClosure 0⟩ :: [] ∧
    decodeNotice (encodeNotice weakerClosure 0) = some (weakerClosure, 0) ∧
    slotOf (receiving weakerClosure 3 closed).engine.table weakerClosure.key = some 1 ∧
    recordAt (receiving weakerClosure 3 closed).engine.table 1 = some heldRecord ∧
    precedence weakerClosure heldRecord.notice = .held := by decide +kernel

/-- A bulletin with nothing to report. -/
def quietBulletin : Bulletin := ⟨3, false, false, false, false, none, none, none, none, 0, [], []⟩

/-- The station with one frame in its bulletin inbox. -/
def bulletinFrom (sender : Nat) (body : List Byte) (s : State) : State :=
  { s with line := { s.line with bulletinInbox := [⟨sender, 0, body⟩] } }

theorem witness_MalformedBodies :
    decodeNotice [] = none ∧ decodeBulletin [] = none ∧
    { running with line := { running.line with noticeInbox := [⟨12, 0, []⟩] } }.startUp = .running ∧
    (bulletinFrom 12 [] running).startUp = .running ∧
    (bulletinFrom 0 (encodeBulletin quietBulletin) running).line.bulletinInbox =
      ⟨0, 0, encodeBulletin quietBulletin⟩ :: [] ∧
    (bulletinFrom 61 (encodeBulletin quietBulletin) running).line.bulletinInbox =
      ⟨61, 0, encodeBulletin quietBulletin⟩ :: [] ∧
    (List.replicate 15 0#8).length ≠ 14 ∧ (List.replicate 9 0#8).length < 10 ∧
    (0x40#8).toNat / 16 % 8 = 4 ∧ (0x80#8).toNat / 64 = 2 := by decide +kernel

/-- Bodies at the bounds of R7 and R154: a LIFTED notice of version 15 is taken and an IN_FORCE one is not; two reports of one
gate are refused. -/
theorem test_malformed_bounds :
    (decodeNotice [60#8, 0#8, 15#8, 60#8, 1#8, 4#8, 4#8, 3#8, 31#8, 31#8, 31#8, 3#8, 0x27#8, 0x60#8]).isSome = true ∧
    decodeNotice [60#8, 0#8, 15#8, 60#8, 0#8, 4#8, 4#8, 3#8, 31#8, 31#8, 31#8, 3#8, 0x27#8, 0x60#8] = none ∧
    decodeNotice [60#8, 0#8, 14#8, 60#8, 0#8, 4#8, 4#8, 3#8, 31#8, 31#8, 31#8, 3#8, 0x27#8, 0x61#8] = none ∧
    decodeBulletin ([31#8, 0#8, 0x80#8, 0x80#8, 0#8, 0x80#8, 0#8, 0xFF#8, 0xFF#8, 0xFF#8] ++ [1#8, 0#8, 0#8, 0#8] ++
      [1#8, 2#8, 1#8, 3#8]) = none ∧
    (decodeBulletin ([31#8, 0#8, 0x80#8, 0x80#8, 0#8, 0x80#8, 0#8, 0xFF#8, 0xFF#8, 0xFF#8] ++ [1#8, 0#8, 0#8, 0#8] ++
      [0#8, 2#8, 1#8, 3#8])).isSome = true := by decide +kernel

/-- The closure held to the end of minute 0, and its tombstone with its hold run. -/
def expiring : State :=
  let t := some { heldRecord with expiry := some 1 } ::
    some { heldRecord with notice := { closure with number := 8, state := .lifted }, tombstone := some 0 } ::
    List.replicate 30 none
  { running with
    clock := 1800000000, engine := { running.engine with table := t, map := sectionMap t } }

theorem witness_ExpiryAndPurge :
    expiring.startUp = .running ∧ expiring.atMinute = true ∧ MapCurrent expiring ∧
    (((expiring.engine.table.filterMap id).filter fun r =>
      r.notice.state == .inForce && r.expiry.any (fun e => decide (e ≤ expiring.minute))).map fun r => r.notice.key) =
        [⟨12, 7⟩] ∧
    (((expiring.engine.table.filterMap id).filter fun r =>
      r.notice.state != .inForce && r.tombstone.any fun x => decide (x + expiring.cfg.tombstoneHold ≤ expiring.minute)).map
        fun r => r.notice.key) = [⟨12, 8⟩] ∧
    { running with clock := 60000000 }.atMinute = true ∧
    (((running.engine.table.filterMap id).filter fun r => r.notice.state == .inForce).map fun r => r.notice.key) =
      ([] : List NoticeKey) :=
  ⟨rfl, by decide +kernel, rfl, by decide +kernel, by decide +kernel, by decide +kernel, by decide +kernel⟩

/-- The station at its first refresh tick. -/
def ticking (s : State) : State := { s with clock := 60000000 }

/-- Nine notices held, with a frame of each in the queue. -/
def nineFrames : State :=
  let ns := (List.range 9).map fun i => { closure with number := 100 + i }
  let s := holding (ns.map (fun n => some (newRecord n 0 3 0)) ++ List.replicate 23 none)
  { s with line := { s.line with waiting := ns.map (fun n => ⟨.notice n 0 .relay, 2, 0, 13⟩), tx := .waitGap 0 } }

/-- The station in catch-up, with a pending set. -/
def catching (s : State) (pending : List NoticeKey) : State :=
  { s with engine := { s.engine with catchUp := true, pendingSet := pending } }

theorem witness_RefreshTick :
    ∀ s ∈ [closed, running, nineFrames, catching closed [⟨12, 7⟩], catching closed [⟨12, 7⟩, ⟨1, 1⟩]],
    (ticking s).startUp = .running ∧ (ticking s).engine.tickAt = some 60000000 ∧ 60000000 ≤ (ticking s).clock := by
  decide +kernel

theorem witness_RefreshTick_choices :
    9 ≤ (ticking nineFrames).line.size ∧
    (running.engine.table.all fun r => r.all fun r => r.notice.state == .expired) = true ∧
    (ticking closed).line.size < 9 ∧ some heldRecord ∈ (ticking closed).engine.table ∧
    heldRecord.notice.state ≠ .expired := by
  decide +kernel

theorem witness_CatchUpSet :
    closed.startUp = .running ∧ closed.engine.catchUp = false ∧ running.engine.catchUp = false ∧
    (catching closed [⟨1, 1⟩]).engine.catchUp = true ∧ (catching running [⟨1, 1⟩]).engine.catchUp = true ∧
    ((closed.engine.table.filterMap id).filter fun r => r.notice.state != .expired).map (fun r => r.notice.key) =
      [⟨12, 7⟩] ∧
    ((running.engine.table.filterMap id).filter fun r => r.notice.state != .expired).map (fun r => r.notice.key) =
      ([] : List NoticeKey) := ⟨rfl, rfl, rfl, rfl, rfl, by decide +kernel, by decide +kernel⟩

/-! ### Orders -/

/-- The station with its key switch off: both key bits inactive. -/
def keyOff : State :=
  { running with inputs := running.inputs.map fun x => { x with debounced := false } }

theorem witness_EffectiveLevelOfBundle :
    3 < 4 ∧ ([] : List OrderAction).length = 0 ∧ 3 < (List.replicate 4 OrderAction.restart).length ∧
    max keyOff.keyLevel 0 = 3 ∧ 1 ≤ [OrderAction.restart].length ∧ [OrderAction.restart].length ≤ 3 ∧
    max running.keyLevel 2 ≤ 2 ∧ running.judge 0 [.holdOpen 0] = none ∧
    running.judge 0 [.holdOpen 0, .lift 1 1, .release 0] = some (2, .notFound) ∧
    running.judge 0 [.holdOpen 0, .release 0] = some (2, .conflict) ∧
    running.judge 0 [.holdOpen 0, .restart, .restart] = some (2, .conflict) := by decide +kernel

theorem witness_RefusedBundleChangesNothing :
    Serves running (.order []) ∧ decodeOrder [] = .error 0 ∧ Serves running (.order [0#8, 1#8, 6#8, 5#8]) ∧
    decodeOrder [0#8, 1#8, 6#8, 5#8] = .ok (0, [.holdOpen 5]) ∧
    running.judge 0 [.holdOpen 5] = some (1, .badField) :=
  ⟨running_serves _, rfl, running_serves _, rfl, by decide +kernel⟩

/-- One whole action, and what may follow it in a body of two: nothing, an unknown code, or an action that ends early. -/
theorem witness_RefusedBundleChangesNothing_bodies :
    Spells [6#8, 0#8] [.holdOpen 0] ∧ [OrderAction.holdOpen 0].length = (1#8).toNat ∧
    [OrderAction.holdOpen 0].length < (2#8).toNat ∧ fieldCount 12#8 = none ∧ fieldCount 3#8 = some 2 ∧ [13#8].length < 2 :=
  ⟨⟨[[6#8, 0#8]], rfl, rfl⟩, rfl, by decide, by decide, by decide, by decide⟩

/-- An unknown code in the second action, a body that ends early and one that goes on (R33, 13.2). -/
theorem test_bodies_refused :
    decodeOrder [0#8, 2#8, 6#8, 0#8, 12#8] = .error 2 ∧ decodeOrder [0#8, 2#8, 6#8, 0#8, 3#8, 13#8] = .error 0 ∧
    decodeOrder [0#8, 1#8, 6#8, 0#8, 6#8] = .error 0 ∧ decodeOrder [0#8, 1#8, 6#8, 0#8] = .ok (0, [.holdOpen 0]) := by
  decide +kernel

/-- The ORDER body of one ISSUE. -/
def issueBody : List Byte := encodeOrder 0 [.issue 0 2 12 20 60 (some 3)]

theorem witness_IssueStoresNotice :
    (∀ t ∈ [running.engine.table, tombTable, advisoryTable, fullTable],
    (holding t).startUp = .running ∧ (holding t).port.state = .idle ∧
    decodeOrder issueBody = .ok (0, [.issue 0 2 12 20 60 (some 3)]) ∧ (holding t).engine.table.length = 32 ∧
    (((holding t).engine.table.filterMap id).map fun r => r.notice.key).Nodup ∧ (holding t).settling = false ∧
    max (holding t).keyLevel 0 ≤ 2 ∧ kindOf 0 = some .fullClosure ∧ causeOf 2 = some .works ∧
    ((holding t).descriptor 3).present = true ∧ max (holding t).keyLevel 0 ≤ ((holding t).descriptor 3).cfg.postLevel) ∧
    RoomOfEach :=
  ⟨by decide +kernel, room_of_each⟩

theorem witness_IssueStoresNotice_order : Serves (serving (.order issueBody)) (.order issueBody) := serving_serves _

/-- The station holding the closure, with a post on panel A, its panel and its gate in FAULT with the arm up. -/
def disordered : State :=
  { closed with
    displays := { closed.displays with a := ⟨[⟨.operator, 2, 9, 0, some 1, some 60⟩], none⟩ }
    panels := { closed.panels with a := closed.panels.a.enterFault 3 }
    gates := { closed.gates with g0 := { closed.gates.g0 with state := .fault, cause := some .displaced } } }

/-- The same with a full table, three of its records tombstones. -/
def crammed : State := { disordered with engine := { disordered.engine with table := tombTable.set 1 (some heldRecord) } }

/-- Bundles that pass their checks there: every action stands in one of them. -/
def goodBundles : List (List OrderAction) :=
  [[.issue 0 2 12 20 60 (some 3), .issue 1 2 0 31 0 none, .amend 12 7 1 12 13 60 none], [.lift 12 7, .holdOpen 0, .clearPost 0],
    [.post 0 2 9 60, .holdClosed 0, .issue 4 0 0 0 0 none], [.release 0, .clearFault 16], [.forceClose 0], [.clearFault 0],
    [.restart]]

theorem witness_IssueStoresNotice_bundles : ∀ acts ∈ goodBundles,
    (∀ s ∈ [disordered, crammed], s.startUp = .running ∧ s.port.state = .idle ∧
      decodeOrder (encodeOrder 0 acts) = .ok (0, acts) ∧ s.judge 0 acts = none ∧ s.engine.table.length = 32 ∧
      ((s.engine.table.filterMap id).map fun r => r.notice.key).Nodup ∧ s.up .g0 ≠ s.down .g0) ∧
    acts.countP isIssue ≤ disordered.engine.table.count none ∧ none ∉ crammed.engine.table := by decide +kernel

/-- The two notices of a bundle and its amended one, in the response's order (R37, R38). -/
theorem test_bundle :
    after (exec (.order (encodeOrder 0 (goodBundles.getD 0 []))) disordered) (fun t =>
      t.port == (disordered.respond .ok [13#8, 0#8, 13#8, 1#8]).port && t.mapKind 12 == some .fullClosure &&
      t.mapKind 31 == some .convoy && (recordAt t.engine.table 1).any (fun r => r.notice.version == 1)) = true := by
  decide +kernel

/-- In a full table with two ADVISORY records to evict, the second ISSUE evicts the first one's, which expires before the other
ADVISORY record (R9, R36; log 25). -/
theorem test_bundle_evicts :
    after (exec (.order (encodeOrder 0 [.issue 4 0 0 0 10 none, .issue 0 2 12 20 0 none])) (holding advisoryTable))
      (fun t => t.port == ((holding advisoryTable).respond .ok [13#8, 0#8, 13#8, 1#8]).port &&
        (recordAt t.engine.table 6).any (fun r => r.notice.key == ⟨13, 1⟩) &&
        t.engine.table.all (fun r => r.all fun r => r.notice.key != ⟨13, 0⟩)) = true := by
  decide +kernel

theorem witness_AmendAndLift :
    Serves closed (.amend 0 12 7 0 12 20 0 none) ∧ Serves closed (.lift 0 12 7) ∧ max closed.keyLevel 0 ≤ 2 ∧
    slotOf closed.engine.table ⟨12, 7⟩ = some 1 ∧ recordAt closed.engine.table 1 = some heldRecord ∧
    heldRecord.notice.state = .inForce ∧ max closed.keyLevel 0 ≤ heldRecord.notice.level ∧
    heldRecord.notice.version ≤ 13 ∧ kindOf 0 = some .fullClosure ∧
    (∀ d, (none : Option Nat) = some d → d ≤ 31) :=
  ⟨⟨rfl, .inl rfl⟩, ⟨rfl, .inl rfl⟩, by decide +kernel, by decide +kernel, by decide +kernel, rfl, by decide +kernel,
    by decide, rfl, nofun⟩

/-- A post at level 1 on panel A. -/
def posted : State :=
  { running with displays := { running.displays with a := ⟨[⟨.operator, 2, 9, 0, some 1, some 60⟩], none⟩ } }

theorem witness_PostAndClearPost : ∀ s ∈ [running, posted],
    s.startUp = .running ∧ s.port.state = .idle ∧ max s.keyLevel 0 ≤ 2 ∧ Panel.ofCode 0 = some .a ∧
    (s.cfg.panels.get .a).isSome = true ∧ (s.descriptor 2).present = true ∧
    (s.descriptor 2).cfg.mask.get .a = true ∧ max s.keyLevel 0 ≤ (s.descriptor 2).cfg.postLevel ∧
    max s.keyLevel 0 = 0 ∧
    (∀ c ∈ (s.displays.get .a).claims, c.id = .operator → c.level.all (fun l => decide (max s.keyLevel 0 ≤ l)) = true) :=
  by decide +kernel

theorem witness_PostAndClearPost_post :
    ⟨.operator, 2, 9, 0, some 1, some 60⟩ ∈ (posted.displays.get .a).claims := by decide +kernel

theorem witness_GateModes :
    Serves running (.holdOpen 0 0) ∧ Serves running (.holdClosed 0 0) ∧ Serves running (.release 0 0) ∧
    Serves running (.forceClose 0 0) ∧ max running.keyLevel 0 = 0 ∧ GateId.ofCode 0 = some .g0 ∧
    running.cfg.gates.get .g0 = some gate0 ∧ (running.gates.get .g0).mode = .auto ∧
    (running.gates.get .g0).state ≠ .closed :=
  ⟨running_serves _, running_serves _, running_serves _, running_serves _, by decide +kernel, rfl, rfl, by decide +kernel,
    by decide +kernel⟩

/-- Panel A and Gate 0 in FAULT, with the limits of the gate as given. -/
def faulted (up down : Bool) : State :=
  { running with
    panels := { running.panels with a := running.panels.a.enterFault 3 }
    gates := { running.gates with g0 := { running.gates.g0 with state := .fault, cause := some .displaced } }
    inputs := running.inputs.zipIdx.map fun x =>
      { x.1 with debounced := if x.2 = 0 then up else if x.2 = 1 then down else x.1.debounced } }

theorem witness_ClearFaultRecovers : ∀ up down : Bool,
    (faulted up down).startUp = .running ∧ (faulted up down).port.state = .idle ∧
    max (faulted up down).keyLevel 0 ≤ 2 ∧ Panel.ofCode 0 = some .a ∧
    ((faulted up down).cfg.panels.get .a).isSome = true ∧ ((faulted up down).panels.get .a).state = .fault ∧
    GateId.ofCode 0 = some .g0 ∧ (faulted up down).cfg.gates.get .g0 = some gate0 ∧
    ((faulted up down).gates.get .g0).state = .fault ∧ (faulted up down).up .g0 = up ∧
    (faulted up down).down .g0 = down := by decide +kernel

/-- The same recovery as a bundle of ORDER passes its checks, with the table whole. -/
theorem witness_IssueStoresNotice_recovery : ∀ up down : Bool,
    decodeOrder (encodeOrder 0 [.clearFault 0]) = .ok (0, [.clearFault 0]) ∧
    (faulted up down).judge 0 [.clearFault 0] = none ∧ (faulted up down).engine.table.length = 32 ∧
    (((faulted up down).engine.table.filterMap id).map fun r => r.notice.key).Nodup := by decide +kernel

/-- A response whose last character has been sent. -/
def responded (restart : Bool) : State :=
  { running with port := { running.port with state := .responding [0x3E#8] 0, restart := restart } }

theorem witness_RestartResets :
    Serves running (.restart 0) ∧ max running.keyLevel 0 = 0 ∧ (responded true).port.state = .responding [0x3E#8] 0 ∧
    (responded true).port.restart = true ∧ (responded false).startUp = .running ∧
    (responded false).port.state = .responding [0x3E#8] 0 ∧ (responded false).port.restart = false :=
  ⟨running_serves _, by decide +kernel, rfl, rfl, rfl, rfl, rfl⟩

/-! ### The service port -/

theorem witness_StatusAndUnknown :
    running.startUp ≠ .resetHeld ∧ running.port.state = .idle ∧ loading.startUp = .loading ∧
    loading.port.state = .idle ∧ (loading.enterUnconfigured .sum).startUp = .unconfigured ∧
    (serving .status).port.state = .serving .status ∧ needsRunning (.readGate 0) = true ∧
    needsRunning (.order []) = true ∧ needsRunning .clearCounters = true ∧ needsRunning .status = false :=
  ⟨nofun, rfl, rfl, rfl, rfl, rfl, rfl, rfl, rfl, rfl⟩

theorem witness_ReadsLeaveState :
    Serves closed (.readNoticeBySlot 31) ∧ Serves closed (.readNoticeBySlot 32) ∧
    Serves closed (.readNoticeByKey 12 8) ∧ slotOf closed.engine.table ⟨12, 8⟩ = none ∧
    Serves closed (.readNoticeByKey 12 7) ∧ slotOf closed.engine.table ⟨12, 7⟩ = some 1 ∧
    Serves closed (.readNoticeByKey 0 7) ∧ Serves closed (.readNoticeByKey 61 7) ∧ Serves closed (.readPanel 2) :=
  ⟨⟨rfl, .inl rfl⟩, ⟨rfl, .inl rfl⟩, ⟨rfl, .inl rfl⟩, by decide +kernel, ⟨rfl, .inl rfl⟩, by decide +kernel,
    ⟨rfl, .inl rfl⟩, ⟨rfl, .inl rfl⟩, ⟨rfl, .inl rfl⟩⟩

/-- Sensor codes of each kind: a role's, a NONE entry's at the list's second place, an entry with a role's, one beyond the list,
and two between and beyond the ranges; the NONE entry answers its channel and the absent raw value (R127, 13.2). -/
theorem witness_ReadsLeaveState_sensors :
    (∀ code ∈ [3, 130, 129, 140, 5, 141], Serves closed (.readSensorRole code)) ∧
    closed.cfg.scanList[130 - 129]? = some ⟨1, none, 15, 0, 0, 0, 0⟩ ∧
    (∀ e, closed.cfg.scanList[129 - 129]? = some e → e.role ≠ none) ∧ closed.cfg.scanList[140 - 129]? = none ∧
    after (exec (.readSensorRole 130) closed) (fun t => t.port == (closed.respond .ok [1#8, 0xFF#8, 0xFF#8]).port) = true ∧
    after (exec (.readSensorRole 129) closed) (fun t => t.port == (closed.respond .badIndex []).port) = true :=
  ⟨fun _ _ => ⟨rfl, .inl rfl⟩, rfl, by rintro e h; cases h; decide, rfl, by decide +kernel, by decide +kernel⟩

theorem witness_ReadDescriptorClearsMark :
    Serves running (.readDescriptor 63) ∧ 63 < 64 ∧ Serves running (.readDescriptor 64) ∧ 64 ≤ 64 :=
  ⟨running_serves _, by decide, running_serves _, by decide⟩

theorem witness_Clearing :
    Serves running (.clearLatches 0xFFFF 0x3FFF) ∧ (0x3FFF#16).getLsbD 14 = false ∧ (0x3FFF#16).getLsbD 15 = false ∧
    Serves running (.clearLatches 0 0x4000) ∧ (0x4000#16).getLsbD 14 = true ∧ (0x8000#16).getLsbD 15 = true ∧
    Serves running .clearCounters :=
  ⟨running_serves _, rfl, rfl, running_serves _, rfl, rfl, running_serves _⟩

/-- The port in a state. -/
def portIn (st : PortState) : State := { running with port := { running.port with state := st } }

/-- The whole frame of a STATUS request after its start character: length, kind and check. -/
def statusFrame : List Byte := [1#8, 1#8] ++ crcBytes [1#8, 1#8]

theorem witness_PortCharacters :
    (portIn .idle).startUp ≠ .resetHeld ∧ (portIn (.serving .status)).port.state = .serving .status ∧
    (portIn (.responding [] 5)).port.state = .responding [] 5 ∧
    (portIn (.receiving [] 50000)).port.state = .receiving [] 50000 ∧ (50000 : Nat) ≤ 50000 ∧ 50000 < 50001 ∧
    (portIn (.receiving [] 50001)).port.state = .receiving [] 50001 ∧
    (0#8).toNat = 0 ∧ 120 < (121#8).toNat ∧ 1 ≤ (1#8).toNat ∧ (120#8).toNat ≤ 120 ∧
    (statusFrame.take 2).head? = some 1#8 ∧ (statusFrame.take 2).length + 1 < (1#8).toNat + 3 ∧
    (portIn (.receiving (statusFrame.take 3) 0)).port.state = .receiving (statusFrame.take 3) 0 ∧
    statusFrame.take 3 ++ [statusFrame.getD 3 0#8] =
      (byte [1#8].length :: [1#8]) ++ crcBytes (byte [1#8].length :: [1#8]) ∧
    statusFrame.take 3 ++ [statusFrame.getD 3 0#8 + 1#8] =
      (byte [1#8].length :: [1#8]) ++ [statusFrame.getD 2 0#8, statusFrame.getD 3 0#8 + 1#8] ∧
    [statusFrame.getD 2 0#8, statusFrame.getD 3 0#8 + 1#8] ≠ crcBytes (byte [1#8].length :: [1#8]) ∧
    (portIn (.receiving [] 50000)).port.parity = false ∧ (true = false ∨ (portIn (.receiving [] 50000)).port.parity = false) :=
  ⟨nofun, rfl, rfl, rfl, by decide, by decide, rfl, rfl, by decide, by decide, by decide, rfl, by decide, rfl,
    by decide +kernel, by decide +kernel, by decide +kernel, rfl, .inr rfl⟩

/-! ### The gates -/

theorem witness_DemandReevaluation :
    closed.startUp = .running ∧ closed.cfg.gates.get .g0 = some gate0 ∧ (closed.gates.get .g0).demand = .opening ∧
    after (exec (.demandReevaluation .g0) closed) (fun t => (t.gates.get .g0).demand == .closing) = true ∧
    after (exec (.demandReevaluation .g0) running) (fun t => (t.gates.get .g0).demand == .opening) = true :=
  ⟨rfl, rfl, by decide +kernel, by decide +kernel, by decide +kernel⟩

/-- Gate 0 closed, its demand to be worked out as OPEN. -/
def shut : State :=
  { running with gates := { running.gates with g0 := { running.gates.g0 with state := .closed, demand := .closing } } }

theorem witness_DemandReevaluation_open :
    (shut.gates.get .g0).demand = .closing ∧
    after (exec (.demandReevaluation .g0) shut) (fun t => (t.gates.get .g0).demand == .opening) = true :=
  ⟨rfl, by decide +kernel⟩

/-- Gate 0 in WARNING since the first second, its claim shown on panel A since then, a minute and more ago. -/
def warned : State :=
  { running with
    clock := 70000000
    gates := { running.gates with g0 := { running.gates.g0 with
      state := .warning, demand := .closing, warnEntry := some 1000000, claims := true } }
    displays := { running.displays with a := ⟨[⟨.gate .g0, 4, 15, 1000000, none, none⟩], none⟩ }
    panels := { running.panels with a := { running.panels.a with
      state := .showing, front := ⟨some ⟨.gate .g0, 4, 1000000⟩, false, []⟩, leadShown := some 2000000 } } }

theorem witness_LoweringTest :
    warned.startUp = .running ∧ warned.cfg.gates.get .g0 = some gate0 ∧ (warned.gates.get .g0).state = .warning ∧
    gate0.approach.get .a = true ∧
    after (exec (.leadStateReport .a) warned) (fun t => (t.gates.get .g0).state == .lowering) = true ∧
    after (exec (.shownDurationReached .g0 .a) { warned with clock := 62000000 })
      (fun t => (t.gates.get .g0).state == .lowering) = true ∧
    after (exec (.preWarningExpiry .g0) { warned with clock := 61000000 })
      (fun t => (t.gates.get .g0).state == .warning) = true :=
  ⟨rfl, rfl, rfl, rfl, by decide +kernel, by decide +kernel, by decide +kernel⟩

/-- The same with the approach panel in FAULT: no panel is counted. -/
def unseen : State := { warned with panels := { warned.panels with a := warned.panels.a.enterFault 3 } }

theorem witness_LoweringTest_signWait :
    unseen.startUp = .running ∧ unseen.cfg.gates.get .g0 = some gate0 ∧ (unseen.gates.get .g0).state = .warning ∧
    PreWarned unseen .g0 gate0 ∧ (¬∃ p, Counts unseen gate0 p) ∧ (unseen.gates.get .g0).bypass = false ∧
    after (exec (.preWarningExpiry .g0) unseen) (fun t => (t.gates.get .g0).signWait) = true := by
  refine ⟨rfl, rfl, rfl, ⟨1000000, rfl, by decide⟩, ?_, rfl, by decide +kernel⟩
  rintro ⟨p, h⟩
  revert h
  cases p <;> (unfold Counts; decide +kernel)

/-- FORCE_CLOSE on a gate in WARNING of which no panel is counted: the bypass mark lets it lower in the same change (R45, R60).
-/
theorem witness_GateModes_force :
    Serves unseen (.forceClose 0 0) ∧ max unseen.keyLevel 0 = 0 ∧ unseen.cfg.gates.get .g0 = some gate0 ∧
    (unseen.gates.get .g0).mode = .auto ∧
    (reacts unseen .g0 gate0
      { unseen.gates.get .g0 with mode := .heldClosed, holdLevel := some 0, bypass := true }).1.state = .warning ∧
    after (exec (.forceClose 0 0) unseen) (fun t => (t.gates.get .g0).state == .lowering) = true :=
  ⟨⟨rfl, .inl rfl⟩, by decide +kernel, rfl, rfl, by decide +kernel, by decide +kernel⟩

/-- Gate 0 raising since the first second, or waiting clear with its beam clear since then. -/
def moving (st : GateState) (now : Nat) : State :=
  { running with
    clock := now
    gates := { running.gates with g0 := { running.gates.g0 with
      state := st, demand := .closing, motion := some 1000000, clear := some 1000000 } } }

theorem witness_GateTimers :
    (moving .raising 21000000).startUp = .running ∧ (moving .raising 21000000).cfg.gates.get .g0 = some gate0 ∧
    ((moving .raising 21000000).gates.get .g0).motion = some 1000000 ∧
    1000000 + gate0.motionLimit * 1000000 ≤ (moving .raising 21000000).clock ∧
    (moving .raising 20999999).clock < 1000000 + gate0.motionLimit * 1000000 ∧
    ((moving .waitClear 6000000).gates.get .g0).state = .waitClear ∧
    ((moving .waitClear 6000000).gates.get .g0).demand = .closing ∧
    ((moving .waitClear 6000000).gates.get .g0).clear = some 1000000 ∧
    1000000 + gate0.beamClear * 1000000 ≤ (moving .waitClear 6000000).clock :=
  ⟨rfl, rfl, rfl, by decide, by decide, rfl, rfl, rfl, by decide⟩

/-- An input of Gate 0 whose change is due, the gate in a state. -/
def limitDue (i : Nat) (r : InputRole) (active other : Bool) (st : GateState) : State :=
  { moving st 5000000 with
    inputs := (running.inputs.map fun x => { x with debounced := other, terminal := other }).set i
      ⟨⟨r, 20, .none, false⟩, active, !active, some 4000000, false⟩ }

theorem witness_GateLimitEvents : ∀ active other : Bool,
    ∀ st ∈ [GateState.opened, .warning, .lowering, .closed, .raising, .retreat, .waitClear, .fault],
    ∀ x ∈ [(0, InputRole.gateUp .g0), (1, .gateDown .g0), (2, .beam .g0)],
    (limitDue x.1 x.2 active other st).startUp = .running ∧
    (limitDue x.1 x.2 active other st).inputs[x.1]? =
      some ⟨⟨x.2, 20, .none, false⟩, active, !active, some 4000000, false⟩ ∧
    (limitDue x.1 x.2 active other st).cfg.gates.get .g0 = some gate0 ∧
    4000000 + 20 * 1000 ≤ (limitDue x.1 x.2 active other st).clock ∧
    (x.1 = 0 → (limitDue x.1 x.2 active other st).down .g0 = other) ∧
    (x.1 = 1 → (limitDue x.1 x.2 active other st).up .g0 = other) := by decide +kernel

/-- The same with a debounce time of 0, before the terminal changes. -/
def limitAtOnce (active : Bool) : State :=
  { moving .raising 5000000 with
    inputs := running.inputs.set 0 ⟨⟨.gateUp .g0, 0, .none, false⟩, !active, !active, none, false⟩ }

theorem witness_GateLimitEvents_atOnce : ∀ active : Bool, (limitAtOnce active).inputs[0]? =
    some ⟨⟨.gateUp .g0, 0, .none, false⟩, !active, !active, none, false⟩ ∧ (!active) ≠ active := by decide +kernel

/-- The warned station with its beam clear again at its terminal. -/
def beamCleared : State :=
  { warned with
    inputs := warned.inputs.set 2 ⟨⟨.beam .g0, 20, .none, false⟩, false, true, some 69000000, false⟩ }

/-- The beam clear again in WARNING tests the lowering conditions (R59). -/
theorem test_beam_clear_lowers :
    after (exec (.debounceExpiry 2) beamCleared) (fun t => (t.gates.get .g0).state == .lowering) = true := by
  decide +kernel

/-! ### Claims -/

theorem witness_NoticeClaimFollowsTable :
    closed.startUp = .running ∧ closed.cfg.panels.get .a = some panelA ∧ closed.cfg.panels.get .b = none ∧
    panelNotice closed.engine.table panelA = some closure ∧ closure.message = none ∧
    defaultOf panelA.defaults .fullClosure = some 1 ∧ closed.usable 1 .a = true ∧ inForce running.engine.table = [] ∧
    panelNotice [some { heldRecord with notice := { closure with message := some 2 } }] panelA =
      some { closure with message := some 2 } ∧ closed.usable 2 .a = true ∧
    panelNotice [some (advisory 1 none)] panelA = some (advisory 1 none).notice ∧
    defaultOf panelA.defaults .advisory = none :=
  ⟨rfl, rfl, rfl, by decide +kernel, rfl, rfl, by decide +kernel, by decide +kernel, by decide +kernel, by decide +kernel,
    by decide +kernel, rfl⟩

/-- Path 0 at an effective level. -/
def atLevel (l : Level) : State := running.setPath 0 { PathRec.reset with effective := l }

/-- The peer 14 reporting its Gate 0 in a state. -/
def ahead (st : GateState) : State :=
  running.setPeer 0 (some ⟨14, { quietBulletin with gates := [⟨.g0, 15, .ascending, st⟩] }, 1000000, 0, true⟩)

theorem witness_HazardAndGateAheadClaims : ∀ l ∈ [Level.quiet, .watch, .warn, .close],
    (atLevel l).startUp = .running ∧ (atLevel l).cfg.panels.get .a = some panelA ∧ .ours 0 ∈ pathOrder ∧
    .ours 0 ∈ panelA.pathMask ∧ pathDescriptors (atLevel l).cfg (.ours 0) = some (6, 7) ∧
    (atLevel l).effectiveOf (.ours 0) = l ∧ (atLevel l).usable 6 .a = true ∧ (atLevel l).usable 7 .a = true := by
  decide +kernel

theorem witness_HazardAndGateAheadClaims_ahead :
    (ahead .closed).startUp = .running ∧ panelA.gateAhead = some ⟨14, 0, 5⟩ ∧
    (ahead .closed).gateAheadWarns ⟨14, 0, 5⟩ = true ∧ (ahead .opened).gateAheadWarns ⟨14, 0, 5⟩ = false ∧
    (ahead .closed).usable 5 .a = true ∧ (14 : Nat) ≠ 5 ∧
    pathDescriptors { cfg with paths := [] } (.ours 0) = none ∧ .ours 1 ∉ panelA.pathMask :=
  ⟨rfl, rfl, by decide +kernel, by decide +kernel, by decide +kernel, by decide, rfl, by decide⟩

/-- The road temperature valid at a value, at a minute boundary, the rule in a state. -/
def weather (v : Int) (active : Bool) : State :=
  { running with
    clock := 60000000
    rules := (List.replicate 8 false).set 0 active
    acq := { running.acq with roles := { running.acq.roles with roadTemp := ⟨.valid, some v, some 500, 0, none⟩ } } }

theorem witness_WeatherRules :
    (weather 0 false).startUp = .running ∧ (weather 0 false).atMinute = true ∧
    (weather 0 false).cfg.rules[0]? = some ⟨.roadTemp, .atOrBelow, 0, 20, 3, ⟨true, false, false⟩, 5⟩ ∧
    (weather 0 false).measure .roadTemp = some 0 ∧ (weather 0 false).ruleActive 0 = false ∧
    (weather 21 true).ruleActive 0 = true ∧ 0 ∈ panelA.weatherMask ∧ (weather 0 false).usable 3 .a = true ∧
    after (exec .weatherRuleEvaluation (weather 0 false)) (fun t => t.ruleActive 0) = true ∧
    after (exec .weatherRuleEvaluation (weather 21 true)) (fun t => !t.ruleActive 0) = true ∧
    after (exec .weatherRuleEvaluation (weather 20 true)) (fun t => t.ruleActive 0) = true :=
  ⟨rfl, by decide +kernel, rfl, by decide +kernel, rfl, rfl, by decide, by decide +kernel, by decide +kernel,
    by decide +kernel, by decide +kernel⟩

/-- A rule of the wind with its sense turned, or one that may claim on no panel, and the wind valid at a value. -/
def windy (v : Int) (active : Bool) (mask : PerPanel Bool) : State :=
  { running with
    clock := 60000000
    cfg := { cfg with rules := [⟨.wind, .atOrAbove, 200, 100, 3, mask, 5⟩] }
    rules := (List.replicate 8 false).set 0 active
    acq := { running.acq with roles := { running.acq.roles with wind := ⟨.valid, some v, some 500, 0, none⟩ } } }

theorem witness_WeatherRules_above : ∀ mask ∈ [(⟨true, false, false⟩ : PerPanel Bool), ⟨false, true, true⟩],
    (windy 200 false mask).startUp = .running ∧ (windy 200 false mask).atMinute = true ∧
    (windy 200 false mask).cfg.rules[0]? = some ⟨.wind, .atOrAbove, 200, 100, 3, mask, 5⟩ ∧
    (windy 200 false mask).measure .wind = some 200 ∧ (windy 200 false mask).ruleActive 0 = false ∧
    (windy 99 true mask).ruleActive 0 = true ∧
    after (exec .weatherRuleEvaluation (windy 200 false mask)) (fun t => t.ruleActive 0 &&
      (t.displays.a.claims.isEmpty == !mask.a)) = true ∧
    after (exec .weatherRuleEvaluation (windy 199 false mask)) (fun t => !t.ruleActive 0) = true ∧
    after (exec .weatherRuleEvaluation (windy 99 true mask)) (fun t => !t.ruleActive 0) = true ∧
    { running with clock := 60000000 }.measure .wind = none := by decide +kernel

theorem witness_PostEndAndGateClaims :
    { posted with clock := 3600000000 }.startUp = .running ∧ { posted with clock := 3600000000 }.atMinute = true ∧
    posted.cfg.gates.get .g0 = some gate0 ∧ gate0.approach.get .a = true ∧ posted.usable gate0.descriptor .a = true ∧
    (posted.cfg.panels.get .a).isSome = true ∧
    after (exec .postEnd { posted with clock := 3600000000 }) (fun t => (t.displays.get .a).claims.isEmpty) = true :=
  ⟨rfl, by decide +kernel, rfl, rfl, by decide +kernel, rfl, by decide +kernel⟩

theorem witness_FieldTextAndMark :
    posted.startUp = .running ∧ (posted.displays.get .a).claims = ⟨.operator, 2, 9, 0, some 1, some 60⟩ :: [] ∧
    (running.displays.get .a).claims = [] ∧ (∀ w ∈ [2, 5], (10 : Int) ^ w ≤ 100000 ∧ -100000 ≤ -(10 : Int) ^ (w - 1)) ∧
    running.measure .airTemp = none ∧ (weather (-4) false).measure .roadTemp = some (-4) :=
  ⟨rfl, rfl, rfl, by decide, by decide +kernel, by decide +kernel⟩

/-- A number that fits stands right-aligned with its sign (R96). -/
theorem test_number_text :
    (-(10 : Int) ^ (4 - 1) < -23 ∧ (-23 : Int) < 10 ^ 4) ∧ writeNumber 4 (-23) = [0x20#8, 0x2D#8, 0x32#8, 0x33#8] ∧
    writeNumber 3 0 = [0x20#8, 0x20#8, 0x30#8] := by decide +kernel

/-! ### Panels -/

/-- Panel A with a record. -/
def panelIn (f : PanelRec → PanelRec) : State :=
  { running with panels := { running.panels with a := f running.panels.a } }

theorem witness_ShownNumbers : (0 : Int) ≤ 25 ∧ (-4 : Int) < 0 ∧ (2 : Nat) ≤ 3 ∧ shownNumber .airTemp (-4) = 0 := by decide

theorem witness_Renders :
    running.startUp = .running ∧ running.cfg.panels.get .a = some panelA ∧
    ((panelIn fun x => { x with render := .running 4999000 }).panels.get .a).render = .running 4999000 ∧
    ((panelIn fun x => x.enterFault 3).panels.get .a).state = .fault := ⟨rfl, rfl, rfl, rfl⟩

/-- Texts of one and of two lines, and a panel of each height. -/
theorem witness_Renders_lines :
    [0x41#8].splitOn (0x0A#8 : Byte) = [[0x41#8]] ∧ [0x41#8, 0x0A#8, 0x42#8].splitOn (0x0A#8 : Byte) = [[0x41#8], [0x42#8]] ∧
    panelA.rows = 8 ∧ { panelA with rows := 16 }.rows = 16 := by decide +kernel

/-- The images of a frame start: a claim, another claim, and blank. -/
def shownImages : List PanelImage := [⟨none, false, []⟩, ⟨some ⟨.notice, 1, 0⟩, true, []⟩, ⟨some ⟨.operator, 2, 0⟩, false, []⟩]

/-- Panel A showing with these images, its flash period due at the next frame start. -/
def framed (back front : PanelImage) (render : Render) : State :=
  panelIn fun x =>
    { x with
      state := .showing
      front := front
      back := back
      render := render
      phaseDue := true
      frameAt := some 4992000 }

theorem witness_FrameStartSwaps : ∀ back ∈ shownImages, ∀ front ∈ shownImages, ∀ render ∈ [Render.idle, .ready],
    (framed back front render).startUp = .running ∧
    ((framed back front render).panels.get .a).state ≠ .fault ∧
    4992000 + panelA.rows * 1000 ≤ running.clock := by decide +kernel

/-- Panel A showing, 500 microseconds into the slot of row 2, its flash period due at the clock's 5 seconds. -/
def lit (misses : Nat) (current : Bool) : State :=
  { (panelIn fun x => { x with
      state := .showing, front := ⟨some ⟨.notice, 1, 0⟩, true, []⟩, leadShown := some 4000000, phaseFrom := 4000000,
      frameAt := some 4997500, driven := true, slotStep := 7, misses := List.replicate 16 misses }) with
    inputs := running.inputs.set 6 ⟨⟨.panelSense .a, 0, .none, false⟩, current, current, none, false⟩ }

theorem witness_FlashAndLampCheck : ∀ current : Bool, ∀ misses ∈ [0, 1, 2],
    (lit misses current).startUp = .running ∧ (lit misses current).cfg.panels.get .a = some panelA ∧
    ((lit misses current).panels.get .a).state = .showing ∧ ((lit misses current).panels.get .a).front.flash = true ∧
    ((lit misses current).panels.get .a).phaseDue = false ∧ 4000000 + panelA.flashOn * 100000 ≤ (lit misses current).clock ∧
    (lit misses current).sense .a = some current ∧ ((lit misses current).panels.get .a).sampled = false ∧
    ((lit misses current).panels.get .a).frameAt = some 4997500 ∧
    (lit misses current).clock - 4997500 < panelA.rows * 1000 ∧ 2 = ((lit misses current).clock - 4997500) / 1000 ∧
    ((lit misses current).clock - 4997500) % 1000 < onTime panelA 7 := by decide +kernel

theorem witness_BrightnessSteps :
    running.startUp = .running ∧ running.cfg.panels.get .a = some panelA ∧ (running.panels.get .a).step = 0 ∧
    ((panelIn fun x => { x with step := 6 }).panels.get .a).step = 6 ∧ (threshold panelA 6 : Int) ≤ 620 ∧
    (∀ j ∈ List.range 8, 6 < j → (500 : Int) < (threshold panelA j : Int)) := ⟨rfl, rfl, rfl, rfl, by decide, by decide⟩

/-! ### Sensors and hazard levels -/

/-- A scan of the two entries of the test station that has run, and an hour boundary. -/
def scanning : State :=
  { running with
    clock := 3600000000
    acq := { running.acq with scan := some 3599000000, nextScan := some 3600000000 } }

theorem witness_SensorEvents :
    scanning.startUp = .running ∧ scanning.cfg.scanList ≠ [] ∧ scanning.acq.nextScan = some 3600000000 ∧
    scanning.acq.scan = some 3599000000 ∧
    3599000000 + (scanning.cfg.scanList.map fun e => (e.sampling + 1) * 2 + 8).sum ≤ scanning.clock ∧
    scanning.cfg.scanList[0]? = some ⟨0, some .roadTemp, 15, 0, 1024, 0, 2⟩ ∧
    scanning.cfg.scanList[1]? = some ⟨1, none, 15, 0, 0, 0, 0⟩ ∧ 1 < scanning.acq.spare.length ∧
    scanning.inputOf .slidePulse = some ⟨⟨.slidePulse, 5, .rising, true⟩, false, false, none, false⟩ ∧
    scanning.atHour = true ∧ (∀ x ∈ scanning.acq.ring, x.hour < scanning.hour) :=
  ⟨rfl, by decide, rfl, rfl, by decide +kernel, rfl, rfl, by decide +kernel, by decide +kernel, by decide +kernel,
    by decide +kernel⟩

/-- A slide pulse waiting at an hour boundary: the computation that follows the append counts the hour just ended and a running
count of 0, and the pulse still waits for the new hour (R123, R131, R135). -/
theorem test_append_computes_at_once :
    after (exec .hourlyAppend { scanning with
      acq := { scanning.acq with running := 5 }, told := [.hourlyAppend, .slidePulse] })
      (fun t => (t.path 0).activity == 5 && t.acq.running == 0 && t.told.head? == some .slidePulse &&
        !t.told.contains .hazardComputation) = true := by decide +kernel

/-- A role record at each of the cases of a faulted sample. -/
theorem witness_SensorEvents_roles :
    ∀ x ∈ [(⟨.unmeasured, none, none, 58, some 0⟩ : RoleRec), ⟨.valid, some 3, none, 59, none⟩,
      ⟨.unmeasured, none, none, 59, some 0⟩, ⟨.failed, some 3, none, 60, some 0⟩],
      ({ scanning with acq := { scanning.acq with roles := { scanning.acq.roles with roadTemp := x } } }.acq.roles.get
        .roadTemp) = x := by decide +kernel

/-- The path at a level with an index, its hold start an hour ago, and a ring of 6 records. -/
def computing (l : Level) : State :=
  { (running.setPath 0 { PathRec.reset with level := l, holdStart := some 0 }) with
    clock := 3600000000
    acq := { running.acq with ring := (List.range 6).map fun i => ⟨i, none, none, 0⟩ } }

theorem witness_HazardComputation : ∀ l ∈ [Level.quiet, .watch, .warn, .close],
    (computing l).startUp = .running ∧ (computing l).atMinute = true ∧ (computing l).cfg.paths[0]? = some path0 ∧
    (computing l).hazard.paths[0]? = some { PathRec.reset with level := l, holdStart := some 0 } ∧
    (computing l).cfg.paths[1]? = none ∧ (computing l).hazard.paths[1]? = some PathRec.reset := by decide +kernel

/-- In the same states no report waits, and the path records are in place. -/
theorem witness_HazardComputation_records (l : Level) :
    (∀ r, .noticeChangeReport r ∉ (computing l).told) ∧ PathsSound (computing l) :=
  ⟨fun _ => List.not_mem_nil, rfl, Nat.le_of_ble_eq_true rfl, rfl, Nat.le_of_ble_eq_true rfl⟩

theorem witness_HazardComputation_falls :
    after (exec .hazardComputation (computing .close)) (fun t => (t.path 0).level == .warn) = true ∧
    after (exec .hazardComputation (computing .quiet)) (fun t => (t.path 0).level == .watch) = true := by decide +kernel

/-- The path at CLOSE by its slide count at 6:00, the role records given, over a table. -/
def closing (r : RoleRec) (t : List (Option NoticeRecord)) : State :=
  { (holding t).setPath 0 { PathRec.reset with level := .close, issuePending := true } with
    clock := 21600000000
    acq := { running.acq with
      ring := [⟨0, some 10, some (-50), 0⟩, ⟨1, none, none, 0⟩, ⟨2, some 4, none, 9⟩], running := 200
      roles := ⟨r, r, r, r, r⟩ } }

/-- Each reading of the inputs: valid, failed with a value, with none, and not configured. -/
theorem witness_HazardComputation_inputs :
    ∀ r ∈ [(⟨.valid, some 100, none, 0, none⟩ : RoleRec), ⟨.failed, some 100, none, 60, some 0⟩,
      ⟨.unmeasured, none, none, 3, some 0⟩, ⟨.notConfigured, none, none, 0, none⟩],
    (closing r []).startUp = .running ∧ (closing r []).atMinute = true ∧ (closing r []).told = [] ∧
    (closing r []).acq.roles.snowDepth = r ∧ (closing r []).acq.roles.wind = r ∧ (closing r []).acq.roles.airTemp = r ∧
    (closing r []).acq.ring.find? (fun h => h.hour + 6 = (closing r []).clock / 3600000000) =
      some ⟨0, some 10, some (-50), 0⟩ ∧
    (computing .quiet).acq.ring.find? (fun h => h.hour + 6 = (computing .quiet).clock / 3600000000) = none := by
  decide +kernel

/-- The path with a request outstanding, over a table. -/
def asking (q : Request) (t : List (Option NoticeRecord)) : State :=
  { (running.setPath 0 { PathRec.reset with level := .close, request := q }) with
    engine := { running.engine with table := t, map := sectionMap t } }

/-- The automatic notice of the path, held. -/
def automatic : NoticeRecord :=
  newRecord ⟨13, 4, 0, 13, .inForce, .fullClosure, .avalanche, 3, 13, 15, none, some 0⟩ 0 4 0

theorem witness_AutomaticNotices :
    (∀ t ∈ [running.engine.table, tombTable, advisoryTable, fullTable],
    (asking .issue t).startUp = .running ∧ running.cfg.paths[0]? = some path0 ∧
    (asking .issue t).hazard.paths[0]? = some { PathRec.reset with level := .close, request := .issue } ∧
    (asking .issue t).engine.table.length = 32 ∧
    (((asking .issue t).engine.table.filterMap id).map fun r => r.notice.key).Nodup ∧ path0.action = .fullClosure ∧
    (path0.action ≠ .none)) ∧ RoomOfEach :=
  ⟨by decide +kernel, room_of_each⟩

theorem witness_AutomaticNotices_lift :
    slotOf (asking (.lift ⟨13, 4⟩) [some automatic]).engine.table ⟨13, 4⟩ = some 0 ∧
    recordAt (asking (.lift ⟨13, 4⟩) [some automatic]).engine.table 0 = some automatic ∧
    automatic.notice.state = .inForce ∧ automatic.notice.level = 3 ∧
    slotOf (asking (.lift ⟨13, 4⟩) []).engine.table ⟨13, 4⟩ = none ∧
    slotOf (asking (.lift ⟨12, 109⟩) tombTable).engine.table ⟨12, 109⟩ = some 9 ∧
    recordAt (asking (.lift ⟨12, 109⟩) tombTable).engine.table 9 = some (tombstone 109 1) ∧
    (tombstone 109 1).notice.state ≠ .inForce ∧
    slotOf (asking (.lift ⟨12, 7⟩) closed.engine.table).engine.table ⟨12, 7⟩ = some 1 ∧
    recordAt (asking (.lift ⟨12, 7⟩) closed.engine.table).engine.table 1 = some heldRecord ∧
    heldRecord.notice.level ≠ 3 := by decide +kernel

/-- A path at CLOSE asks for its notice where none is held; with two held it asks for a lift of the one it did not issue, and
below CLOSE of the one it holds (R144, R146, R147). -/
theorem test_automatic_requests :
    after (exec .hazardComputation (closing ⟨.valid, some 100, none, 0, none⟩ (List.replicate 32 none)))
      (fun t => (t.path 0).level == .close && (t.path 0).request == .issue && t.told.contains (.automaticIssue 0)) = true ∧
    after (exec .hazardComputation (closing ⟨.valid, some 100, none, 0, none⟩
      (some automatic :: some { automatic with notice := { automatic.notice with number := 5 } } :: List.replicate 30 none)))
      (fun t => (t.path 0).request == .lift ⟨13, 4⟩ && !(t.path 0).issuePending) = true ∧
    after (exec .hazardComputation { computing .close with
      engine := (holding (some automatic :: List.replicate 31 none)).engine })
      (fun t => (t.path 0).level == .warn && (t.path 0).request == .lift ⟨13, 4⟩) = true := by decide +kernel

/-- A report of an amended notice's expiry that waits is read before the levels move (R148). -/
def reported : State :=
  { computing .close with told := [.noticeChangeReport ⟨0, ⟨13, 4⟩, some .inForce, some (.expired, 2), .expiry⟩] }

theorem witness_HazardComputation_report :
    reported.startUp = .running ∧ reported.atMinute = true ∧
    reported.told = [] ++ .noticeChangeReport ⟨0, ⟨13, 4⟩, some .inForce, some (.expired, 2), .expiry⟩ :: [] ∧
    after (exec (.noticeChangeReport ⟨0, ⟨13, 4⟩, some .inForce, some (.expired, 2), .expiry⟩) reported)
      (fun u => (u.path 0).inhibited) = true := ⟨rfl, by decide +kernel, rfl, by decide +kernel⟩

theorem witness_ReportsAndEffectiveLevels :
    (computing .close).startUp = .running ∧ 0 < (computing .close).cfg.paths.length ∧
    (computing .close).hazard.paths[0]? = some { PathRec.reset with level := .close, holdStart := some 0 } ∧
    (∀ l, (some (NoticeState.lifted, 2)) ≠ some (.inForce, l)) ∧ ChangeCause.order ≠ .hazardOwn ∧
    { computing .quiet with settling := true }.settling = true ∧
    (computing .quiet).cfg.remotes[0]? = some ⟨9, 6, 7⟩ ∧ (computing .quiet).hazard.remotes[0]? = some .quiet :=
  ⟨rfl, by decide, rfl, by simp, by decide, rfl, rfl, rfl⟩

/-- Reports without effect: of the unit's own lift, of a path that is at CLOSE already, and of a path that is not configured. -/
theorem witness_ReportsAndEffectiveLevels_none :
    (computing .close).hazard.paths[0]? = some { PathRec.reset with level := .close, holdStart := some 0 } ∧
    some (NoticeState.expired, 2) ≠ some (.inForce, 3) ∧ (computing .close).settling = false ∧
    (computing .close).cfg.paths.length ≤ 1 := by decide +kernel

/-- A path at CLOSE keeps its hold start and its effective level over a report of a copy learned while settling (R149). -/
theorem test_no_readoption_at_close :
    after (exec (.noticeChangeReport ⟨0, ⟨13, 4⟩, none, some (.inForce, 3), .received⟩)
      { computing .close with settling := true })
      (fun t => (t.path 0).holdStart == some 0 && t.hazard == (computing .close).hazard) = true := by decide +kernel

/-! ### Bulletins -/

/-- The station at a bulletin time with some frames waiting. -/
def bulletinDue (w : List Frame) : State :=
  { running with
    bulletin := { running.bulletin with nextAt := some 5000000 }
    line := { running.line with waiting := w, tx := if w.isEmpty then .idle else .waitGap 5 } }

theorem witness_BulletinTimes :
    (bulletinDue []).startUp = .running ∧ (bulletinDue []).bulletin.nextAt = some 5000000 ∧
    5000000 ≤ (bulletinDue []).clock ∧ (bulletinDue []).line.waiting.any Frame.isBulletin = false ∧
    (bulletinDue []).line.size < 12 ∧
    (bulletinDue [⟨.bulletin quietBulletin, 0, 0, 13⟩]).line.waiting.any Frame.isBulletin = true ∧
    12 ≤ (bulletinDue (List.replicate 12 ⟨.notice closure 0 .relay, 2, 0, 13⟩)).line.size ∧
    (bulletinDue (List.replicate 12 ⟨.notice closure 0 .relay, 2, 0, 13⟩)).line.waiting.any Frame.isBulletin = false :=
  ⟨rfl, rfl, by decide, rfl, by decide +kernel, by decide, by decide +kernel, by decide +kernel⟩

/-- The line in each state of its transmitter: idle with no frame, counting with the frame of the closure or of a tombstone
waiting, and sending the one or the other. -/
def lines : List Line :=
  running.line :: [closure.number, 109].flatMap fun number =>
    [{ running.line with waiting := [⟨.notice { closure with number := number } 0 .relay, 2, 0, 13⟩], tx := .waitGap 5 },
     { running.line with
      tx := .sending ⟨⟨.notice { closure with number := number } 0 .relay, 2, 0, 13⟩, [], 0, 0, none, false⟩ }]

/-- Each clause on the transmitter has a line that it speaks of, and the statements that say what becomes of it have their
hypotheses met with each of these. -/
theorem witness_transmitter :
    (running.line.tx = .idle ∧ running.line.waiting = []) ∧
    (lines.any fun l => l.tx == .waitGap 5 && !l.waiting.isEmpty) = true ∧ (lines.any fun l => l.started.isSome) = true ∧
    ∀ l ∈ lines,
      slotOf (receiving closure 3 { holding tombTable with line := l }).engine.table closure.key = none ∧
      (receiving closure 3 { holding tombTable with line := l }).line.noticeInbox = [⟨12, 3, encodeNotice closure 0⟩] ∧
      slotOf (receiving amendedClosure 3 { closed with line := l }).engine.table amendedClosure.key = some 1 ∧
      (receiving amendedClosure 3 { closed with line := l }).line.noticeInbox = [⟨12, 3, encodeNotice amendedClosure 0⟩] ∧
      { expiring with line := l }.atMinute = true ∧ (ticking { closed with line := l }).line.size < 9 ∧
      { holding tombTable with line := l }.port.state = .idle ∧ { closed with line := l }.port.state = .idle ∧
      { crammed with line := l }.judge 0 (goodBundles.getD 0 []) = none ∧
      { asking .issue tombTable with line := l }.hazard.paths[0]? =
        some { PathRec.reset with level := .close, request := .issue } ∧
      { bulletinDue [] with line := l }.bulletin.nextAt = some 5000000 := by decide +kernel

/-- A peer at some periods missed, its next period run. -/
def aging (missed : Nat) : State :=
  { (running.setPeer 3 (some ⟨14, quietBulletin, 0, missed, missed < 3⟩)) with clock := 600000000 }

theorem witness_BulletinTimes_boundary : ∀ m ∈ [0, 1, 2, 3, 8, 9],
    (aging m).startUp = .running ∧ (aging m).bulletin.peers[3]? = some (some ⟨14, quietBulletin, 0, m, m < 3⟩) ∧
    0 + (m + 1) * ((aging m).cfg.bulletinPeriod * 1000000) ≤ (aging m).clock ∧ (aging m).bulletin.peers.length = 16 ∧
    (((aging m).bulletin.peers.filterMap id).map (·.sender)).Nodup ∧
    (∀ x ∈ (aging m).bulletin.peers.filterMap id, x.missed < 10 ∧ (x.present = true ↔ x.missed < 3)) ∧
    panelA.gateAhead = some ⟨14, 0, 5⟩ ∧ (aging m).cfg.paths[0]? = some path0 ∧
    (aging m).hazard.paths[0]? = some PathRec.reset := by decide +kernel

/-- The peer 14 after two periods missed, its closed gate shown on panel A. -/
def fading : State :=
  { aging 2 with
    bulletin := { (aging 2).bulletin with
      peers := [some ⟨14, { quietBulletin with gates := [⟨.g0, 15, .ascending, .closed⟩] }, 0, 2, true⟩] }
    displays := { running.displays with a := ⟨[⟨.gateAhead, 5, 13, 1000000, none, none⟩], none⟩ } }

/-- A peer that goes stale leaves its report and its GATE_AHEAD claim behind in the same step (R93, R142, R157). -/
theorem test_stale_peer :
    after (exec (.periodBoundary 0) fading)
      (fun t => (t.displays.get .a).claims.isEmpty && !(t.peer 0).any (·.present)) = true := by decide +kernel

/-- A peer table full of peers, each present or not. -/
def crowded (present : Bool) : State :=
  { running with bulletin := { running.bulletin with
    peers := (List.range 16).map fun i => some ⟨20 + i, quietBulletin, 100 + i, if present then 0 else 3, present⟩ } }

theorem witness_BulletinFrameTaken : ∀ s ∈ [running, ahead .closed, crowded true, crowded false],
    (bulletinFrom 14 (encodeBulletin quietBulletin) s).startUp = .running ∧
    (bulletinFrom 14 (encodeBulletin quietBulletin) s).line.bulletinInbox =
      ⟨14, 0, encodeBulletin quietBulletin⟩ :: [] ∧
    decodeBulletin (encodeBulletin quietBulletin) = some quietBulletin := by decide +kernel

theorem witness_BulletinFrameTaken_entries :
    entryOf (ahead .closed).bulletin.peers 14 = some 0 ∧ entryOf running.bulletin.peers 14 = none ∧
    running.bulletin.peers.findIdx? Option.isNone = some 0 ∧ entryOf (crowded false).bulletin.peers 14 = none ∧
    (crowded false).bulletin.peers.findIdx? Option.isNone = none ∧
    (crowded false).bulletin.peers[0]? = some (some ⟨20, quietBulletin, 100, 3, false⟩) ∧
    (∀ x ∈ (crowded false).bulletin.peers.filterMap id, 100 ≤ x.received) ∧
    (∀ x ∈ (crowded true).bulletin.peers, x.any (·.present) = true) := by decide +kernel

/-! ### The pass line -/

/-- The line with a receiver and a transmitter. -/
def lineIn (rx : Receiver) (tx : Transmitter) : State := { running with line := { running.line with rx := rx, tx := tx } }

/-- The header of a notice frame of station 12. -/
def noticeHead : List Byte := [2#8, 12#8, 3#8, 14#8]

/-- A transmission with one character read back. -/
def sending (attempts pos : Nat) (readback : Option (Byte × Bool)) : Sending :=
  ⟨⟨.notice closure 0 .relay, 2, attempts, 13⟩, [0x5A#8, 0xC3#8], pos, 10000000, readback, false⟩

/-- A frame whose gap has run, and one within it. -/
theorem witness_LineReceives_gap : ∀ gap ∈ [40000000, 40000001],
    { lineIn (.header []) .idle with line := { (lineIn (.header []) .idle).line with rxGap := gap } }.line.rxGap = gap ∧
    (lineIn (.header []) .idle).line.rx.inFrame = true ∧ (lineIn (.header []) .idle).line.started = none ∧
    (40000000 : Nat) ≤ 40000000 ∧ 40000000 < 40000001 := by decide +kernel

theorem witness_LineReceives :
    (lineIn (.hunt true) .idle).startUp = .running ∧ (lineIn (.hunt true) .idle).line.started = none ∧
    (lineIn (.hunt true) .idle).line.rx = .hunt true ∧
    (lineIn (.header [2#8, 12#8, 3#8]) (.waitGap 7)).line.rx = .header [2#8, 12#8, 3#8] ∧
    (lineIn (.header [2#8, 12#8, 3#8]) (.waitGap 7)).line.started = none ∧
    (3#8).toNat ≤ 7 ∧ (14#8).toNat = 14 ∧ ¬(8#8).toNat ≤ 7 ∧
    (lineIn (.body noticeHead []) .idle).line.rx.inFrame = true ∧
    (lineIn (.check noticeHead [] []) .idle).line.rx = .check noticeHead [] [] ∧
    (lineIn (.header []) .idle).line.rx = .header [] ∧ ([] : List Byte).length < 3 ∧
    (lineIn (.hunt false) (.sending (sending 0 0 none))).line.tx = .sending (sending 0 0 none) :=
  ⟨rfl, rfl, rfl, rfl, rfl, by decide, rfl, by decide, rfl, rfl, rfl, by decide, rfl⟩

/-- The two check characters of a frame with an empty content. -/
def checkChars (kind sender : Byte) : List Byte := crcBytes [kind, sender, 3#8, 14#8]

/-- The receiver before the last check character of a frame, its inboxes holding some frames. -/
def lastCheck (kind sender : Byte) (frames : Nat) : State :=
  let s := lineIn (.check [kind, sender, 3#8, 14#8] [] [(checkChars kind sender).getD 0 0#8]) .idle
  { s with line := { s.line with
    noticeInbox := List.replicate frames ⟨12, 0, []⟩, bulletinInbox := List.replicate frames ⟨12, 0, []⟩ } }

theorem witness_LineReceives_check :
    ∀ kind ∈ [1#8, 2#8], ∀ sender ∈ [12#8, 13#8],
      [(checkChars kind sender).getD 0 0#8, (checkChars kind sender).getD 1 0#8] =
        crcBytes ([kind, sender, 3#8, 14#8] ++ []) ∧
      [(checkChars kind sender).getD 0 0#8, (checkChars kind sender).getD 1 0#8 + 1#8] ≠
        crcBytes ([kind, sender, 3#8, 14#8] ++ []) ∧
      (lastCheck kind sender 0).line.rx =
        .check [kind, sender, 3#8, 14#8] [] [(checkChars kind sender).getD 0 0#8] ∧
      (lastCheck kind sender 0).line.started = none ∧ (lastCheck kind sender 3).line.bulletinInbox.length < 4 ∧
      (lastCheck kind sender 7).line.noticeInbox.length < 8 ∧ 4 ≤ (lastCheck kind sender 4).line.bulletinInbox.length ∧
      8 ≤ (lastCheck kind sender 8).line.noticeInbox.length ∧ (12#8).toNat ≠ running.cfg.station ∧
      (13#8).toNat = running.cfg.station := by decide +kernel

/-- A frame waiting for its gap of 12 + 3 × 13 bit-times. -/
def waitingFrame (w : List Frame) : State :=
  { running with line := { running.line with tx := .waitGap 51000000, waiting := w } }

/-- A bulletin being sent. -/
def sendingBulletin (attempts : Nat) : Sending :=
  ⟨⟨.bulletin quietBulletin, 0, attempts, 13⟩, [0x5A#8, 0xC3#8], 0, 10000000, none, false⟩

theorem witness_LineSends :
    (waitingFrame [⟨.notice closure 0 .relay, 2, 0, 13⟩]).line.tx = .waitGap 51000000 ∧
    ((if (Frame.isBulletin ⟨.notice closure 0 .relay, 2, 0, 13⟩) then 48 else 12) + 3 * 13) * 1000000 ≤ 51000000 ∧
    10000000 ≤ (sending 0 0 (some (0x5A#8, false))).sent ∧
    { sending 0 0 none with sent := 9999999 }.sent < 10000000 ∧
    (sending 0 0 (some (0x5A#8, false))).chars[0]? = some 0x5A#8 ∧ (sending 0 1 (some (0xC3#8, false))).chars[1]? = some 0xC3#8 ∧
    (sending 0 0 none).readback = none ∧ (sending 0 0 none).withdrawn = false ∧
    (sending 0 0 (some (0x5A#8, true))).readback = some (0x5A#8, true) ∧
    (∀ k, (sending 0 0 none).frame.key = some k → ∀ g ∈ running.line.waiting, g.key ≠ some k) ∧
    (if (sending 7 0 none).frame.isBulletin then 2 else 8) ≤ (sending 7 0 none).frame.attempts + 1 ∧
    (sending 6 0 none).frame.attempts + 1 < (if (sending 6 0 none).frame.isBulletin then 2 else 8) ∧
    (if (sendingBulletin 1).frame.isBulletin then 2 else 8) ≤ (sendingBulletin 1).frame.attempts + 1 ∧
    (sendingBulletin 0).frame.attempts + 1 < (if (sendingBulletin 0).frame.isBulletin then 2 else 8) ∧
    (lineIn (.hunt false) (.sending (sending 0 0 none))).startUp = .running ∧
    { sending 0 0 none with withdrawn := true }.withdrawn = true :=
  ⟨rfl, by decide, by decide, by decide, rfl, rfl, rfl, rfl, rfl, fun _ _ g h => absurd h (by
      rw [show running.line.waiting = [] by decide +kernel]; exact List.not_mem_nil), by decide, by decide, by decide,
    by decide, rfl, rfl⟩

/-- The levels of a 0x5A being sent: its start bit, its bits from the least significant and its stop bit (R162). -/
theorem test_txd : ∀ i ∈ List.range 10,
    (lineIn (.hunt false) (.sending { sending 0 0 none with sent := i * 1000000 })).line.txdLevel =
      [false, false, true, false, true, true, false, true, false, true].getD i true := by decide +kernel

/-! ### Field inputs -/

theorem witness_FieldInputChanges :
    running.startUp = .running ∧ running.inputs[5]? = some ⟨⟨.slidePulse, 5, .rising, true⟩, false, false, none, false⟩ ∧
    false ≠ true ∧ (5 : Nat) ≠ 0 ∧
    running.inputs[6]? = some ⟨⟨.panelSense .a, 0, .none, false⟩, false, false, none, false⟩ ∧
    { running with inputs := running.inputs.set 5 ⟨⟨.slidePulse, 5, .rising, true⟩, true, false, some 4995000, false⟩
      }.inputs[5]? = some ⟨⟨.slidePulse, 5, .rising, true⟩, true, false, some 4995000, false⟩ ∧
    4995000 + 5 * 1000 ≤ running.clock ∧
    { running with inputs := running.inputs.set 5 ⟨⟨.slidePulse, 5, .rising, true⟩, true, false, some 4999000, false⟩
      }.inputs[5]? = some ⟨⟨.slidePulse, 5, .rising, true⟩, true, false, some 4999000, false⟩ ∧ (true : Bool) ≠ false :=
  ⟨rfl, by decide +kernel, by decide, by decide, by decide +kernel, by decide +kernel, by decide +kernel, by decide +kernel,
    by decide⟩

/-- The carrier input, its change due at once. -/
theorem witness_FieldInputChanges_carrier : ∀ active : Bool,
    { running with inputs := running.inputs.set 7 ⟨⟨.lineCarrier, 0, .none, false⟩, !active, !active, none, false⟩
      }.inputs[7]? = some ⟨⟨.lineCarrier, 0, .none, false⟩, !active, !active, none, false⟩ ∧ (!active) ≠ active ∧
    running.line.gapRun = false := by decide +kernel

/-! ### What every step keeps -/

theorem witness_TableAndMapKept : TableSound closed ∧ MapCurrent closed ∧
    after (step { closed with pending := [.noticeClaim] }) (fun _ => true) = true :=
  ⟨⟨rfl, by decide +kernel⟩, rfl, by decide +kernel⟩

theorem witness_AttentionKept : AttentionFollows running ∧
    after (step { running with pending := [.latchSetRequest .inboxDrop] }) (fun t => t.attention) = true :=
  ⟨by unfold AttentionFollows; decide +kernel, by decide +kernel⟩

theorem witness_GatesKept : GatesSound running ∧
    after (step { running with pending := [.demandReevaluation .g0] }) (fun _ => true) = true := by
  refine ⟨fun g => ?_, by decide +kernel⟩
  cases g <;> (unfold GateSound; decide +kernel)

theorem witness_StacksKept : StacksSound posted ∧
    after (step { posted with pending := [.postEnd] }) (fun _ => true) = true := by
  refine ⟨fun p => ?_, by decide +kernel⟩
  cases p <;> (unfold StackSound Before; decide +kernel)

theorem witness_PanelsKept : PanelsSound (lit 2 false) ∧
    after (step { lit 2 false with pending := [.flashPeriodExpiry .a] }) (fun _ => true) = true := by
  refine ⟨fun p => ?_, by decide +kernel⟩
  cases p <;> (unfold PanelSound; decide +kernel)

theorem witness_QueueAndInboxesKept :
    QueueSound nineFrames ∧ InboxesSound nineFrames ∧ FramesHeld nineFrames ∧
    after (step { nineFrames with pending := [.transmitStart] }) (fun _ => true) = true := by
  have held : ∀ f ∈ nineFrames.line.waiting, ∀ k ∈ f.key,
      ∃ r ∈ nineFrames.engine.table.filterMap id, r.notice.key = k ∧ r.notice.state ≠ .expired := by decide +kernel
  refine ⟨by unfold QueueSound; decide +kernel, by unfold InboxesSound; decide +kernel,
    ⟨fun f hf k hk => ?_, fun x h => ?_⟩, by decide +kernel⟩
  · obtain ⟨r, hr, h⟩ := held f hf k hk
    obtain ⟨_, ho, rfl⟩ := List.mem_filterMap.mp hr
    exact ⟨r, ho, h⟩
  · have waits : nineFrames.line.tx = .waitGap 0 := by decide +kernel
    rw [waits] at h
    cases h

/-- A computation from a state with its path records in place. -/
theorem witness_SensorsAndPeersKept_paths : PathsSound (computing .close) ∧
    after (step { computing .close with pending := [.hazardComputation] }) (fun t => t.hazard.paths.length == 4) = true :=
  ⟨⟨rfl, by decide, rfl, by decide⟩, by decide +kernel⟩

theorem witness_SensorsAndPeersKept : SensorsSound (crowded true) ∧ PeersSound (crowded true) ∧
    after (step { crowded true with pending := [.slidePulse] }) (fun _ => true) = true := by
  refine ⟨⟨fun r => ?_, by decide +kernel, by decide +kernel, by decide +kernel⟩, by unfold PeersSound; decide +kernel,
    by decide +kernel⟩
  cases r <;> (unfold RoleSound; decide +kernel)

/-! ### The byte layouts -/

/-- A bulletin with every kind of report. -/
def fullBulletin : Bulletin where
  home := 14
  settling := true
  degraded := false
  panelFault := true
  gateFault := false
  road := some (-500)
  air := none
  wind := some 600
  snow := some 200
  inForce := 32
  paths := [⟨63, .close, 1000⟩]
  gates := [⟨.g1, 31, .descending, .waitClear⟩]

theorem witness_DecodeOfEncode :
    noticeInRange closure 10080 = true ∧ closure.number < 256 ∧ closure.state ≠ .expired ∧
    fullBulletin.wellFormed = true ∧ (Instr.readGate 1).wellFormed = true ∧
    encodeRequest (.readGate 1) = some [2#8, 11#8, 1#8] ∧
    (OrderAction.issue 0 2 12 20 60 (some 3)).wellFormed = true := by decide +kernel

/-- The test station with room for one more frame in each inbox. -/
def hearing : State :=
  { running with line := { running.line with
    noticeInbox := List.replicate 7 ⟨12, 3, encodeNotice closure 60⟩
    bulletinInbox := List.replicate 3 ⟨12, 0, encodeBulletin quietBulletin⟩ } }

/-- A notice and a bulletin frame of station 14 that reach it, with the bytes that begin the notice frame (R163, R165). -/
theorem witness_DecodeOfEncode_heard :
    hearing.startUp = .running ∧ hearing.line.started = none ∧ hearing.line.rx = .hunt false ∧ (14 : Nat) ≤ 255 ∧
    14 ≠ hearing.cfg.station ∧
    (∀ f ∈ [(⟨.notice closure 60 .relay, 7, 0, 14⟩ : Frame), ⟨.bulletin fullBulletin, 7, 0, 14⟩], f.hop ≤ 7) ∧
    fullBulletin.wellFormed = true ∧ hearing.line.noticeInbox.length < 8 ∧ hearing.line.bulletinInbox.length < 4 ∧
    (encodeFrame 14 ⟨.notice closure 60 .relay, 7, 0, 14⟩).take 6 = [0x5A#8, 0xC3#8, 2#8, 14#8, 7#8, 14#8] :=
  ⟨rfl, rfl, rfl, by decide, by decide, by decide, by decide +kernel, by decide, by decide, by decide +kernel⟩

end Sys2Proof.Tests
end

/-! Chapters 2 and 3: what a gate does, said once in the terms of `Safety.lean`. -/
namespace Sys2Proof.Orders

open Machine Safety

/-! ## A gate moves -/

/-- One gate's record replaced and its messages told: the form that every move of a gate takes. -/
def moved (s : State) (g : GateId) (m : Gate × List Instr) : State := (s.setGate g m.1).tell m.2

section
variable (s : State) (g h : GateId) (c : GateCfg) (m n : Gate × List Instr) (x : Gate) (st : GateState)

@[simp] theorem moved_gates : (moved s g m).gates = s.gates.set g m.1 := rfl
@[simp] theorem moved_told : (moved s g m).told = s.told ++ m.2 := rfl
@[simp] theorem moved_clock : (moved s g m).clock = s.clock := rfl
@[simp] theorem moved_cfg : (moved s g m).cfg = s.cfg := rfl
@[simp] theorem moved_mapKind (sec : Nat) : (moved s g m).mapKind sec = s.mapKind sec := rfl
@[simp] theorem moved_down : (moved s g m).down h = s.down h := rfl
@[simp] theorem moved_up : (moved s g m).up h = s.up h := rfl
@[simp] theorem moved_beamBroken : (moved s g m).beamBroken h = s.beamBroken h := rfl

theorem moved_gates_other (hne : h ≠ g) : (moved s g m).gates.get h = s.gates.get h :=
  PerGate.get_set_other _ _ _ _ hne

@[simp] theorem gates_set_get (gs : PerGate Gate) : gs.set g (gs.get g) = gs := by cases g <;> rfl

@[simp] theorem gates_set_set (gs : PerGate Gate) (y : Gate) : (gs.set g x).set g y = gs.set g y := by cases g <;> rfl

/-- Two moves of one gate are one. -/
@[simp] theorem moved_moved : moved (moved s g m) g n = moved s g (n.1, m.2 ++ n.2) := by
  simp [moved, State.setGate, State.tell]

/-- A record put in place before a move gives way to it. -/
@[simp] theorem moved_setGate : moved (s.setGate g x) g m = moved s g m := by
  simp [moved, State.setGate]

/-- A gate that keeps its record and tells nothing leaves the station. -/
@[simp] theorem moved_stay : moved s g (s.gates.get g, []) = s := by
  simp [moved, State.setGate, State.tell]

/-- A record replaced is a move that tells nothing. -/
theorem setGate_eq_moved : s.setGate g x = moved s g (x, []) := by
  simp [moved, State.setGate, State.tell]

/-- Messages told are a move that keeps the gate's record. -/
theorem tell_eq_moved (cs : List Instr) : s.tell cs = moved s g (s.gates.get g, cs) := by
  simp [moved, State.setGate, State.tell]

/-! ## Entering a state -/

theorem flashing_eq : flashing st = decide (st ≠ .opened ∧ st ≠ .closed) := by cases st <;> rfl

theorem flasherLevel_eq (start now : Nat) : flasherLevel st start now = flasherOf st start now := by cases st <;> rfl

/-- Where the flasher cycle of a gate that enters a state starts (R51). -/
theorem flasher_starts_iff : (flashing st && !flashing x.state) = true ↔
    (x.state = .opened ∨ x.state = .closed) ∧ st ≠ .opened ∧ st ≠ .closed := by
  simp only [flashing_eq, Bool.and_eq_true, Bool.not_eq_true', decide_eq_true_eq, decide_eq_false_iff_not]
  tauto

/-- A gate that enters a state with no warning running has the outputs of the state, and the timers it is given. -/
theorem toState_eq (now : Nat) (motion clear : Option Nat) :
    x.toState st now motion clear = { movedTo x st now with motion := motion, clear := clear } := by
  have hraise : (st == .raising || st == .retreat) = decide (st = .raising ∨ st = .retreat) := by cases st <;> rfl
  have hlower : (st == .lowering) = decide (st = .lowering) := by cases st <;> rfl
  simp only [Gate.toState, Gate.enter, movedTo, flasher_starts_iff, flasherLevel_eq, hraise, hlower]

/-- What an entry leaves depends on the clock, the warning and the beam, which no move changes. -/
@[simp] theorem entered_moved : entered (moved s g m) h c x st = entered s h c x st := rfl
@[simp] theorem entered_setGate (y : Gate) : entered (s.setGate g y) h c x st = entered s h c x st := rfl
@[simp] theorem asked_moved : asked (moved s g m) h c x st = asked s h c x st := rfl
@[simp] theorem asked_setGate (y : Gate) : asked (s.setGate g y) h c x st = asked s h c x st := rfl

@[simp] theorem canWarn_moved : canWarn (moved s g m) c = canWarn s c := rfl

@[simp] theorem enters_moved : enters (moved s g m) h c x st = enters s h c x st := rfl
@[simp] theorem entersThrough_moved (next : GateState) :
    entersThrough (moved s g m) h c x st next = entersThrough s h c x st next := rfl
@[simp] theorem opens_moved : opens (moved s g m) h c x = opens s h c x := rfl

theorem any_warnable_eq : (Panel.all.any fun p => s.warnable c p) = canWarn s c := by
  simp only [canWarn, Panel.all, State.warnable, State.usable, Bool.and_assoc]

/-- The withdrawal of the claims a gate holds (R56). -/
theorem withdrawClaims_eq : s.withdrawClaims g = moved s g
    ({ s.gates.get g with claims := false },
      if (s.gates.get g).claims = true then [.gateClaimRequest g .withdraw] else []) := by
  unfold State.withdrawClaims
  split
  · rfl
  · rename_i hc
    have hx : ({ s.gates.get g with claims := false } : Gate) = s.gates.get g := by
      rw [← Bool.eq_false_iff.mpr hc]
    rw [hx, moved_stay]

/-- A gate enters WARNING (R55, R56). -/
theorem enterWarning_eq : s.enterWarning g c = moved s g (enters s g c (s.gates.get g) .warning) := by
  simp [State.enterWarning, any_warnable_eq, toState_eq, enters, entered, asked, moved, movedTo]

/-- A gate enters LOWERING (R59). -/
theorem enterLowering_eq : s.enterLowering g = moved s g (enters s g c (s.gates.get g) .lowering) := by
  simp [State.enterLowering, toState_eq, enters, entered, asked, setGate_eq_moved, movedTo]

/-- A gate enters RAISING (R61, R66). -/
theorem enterRaising_eq : s.enterRaising g = moved s g (enters s g c (s.gates.get g) .raising) := by
  simp [State.enterRaising, toState_eq, enters, entered, asked, setGate_eq_moved, movedTo]

/-- A gate enters RETREAT (R63). -/
theorem enterRetreat_eq : s.enterRetreat g = moved s g (enters s g c (s.gates.get g) .retreat) := by
  simp [State.enterRetreat, toState_eq, enters, entered, asked, setGate_eq_moved, movedTo]

/-- A gate enters WAIT_CLEAR (R67). -/
theorem enterWaitClear_eq : s.enterWaitClear g = moved s g (enters s g c (s.gates.get g) .waitClear) := by
  simp [State.enterWaitClear, toState_eq, enters, entered, asked, setGate_eq_moved, movedTo]

/-- A gate enters CLOSED (R62, R64). -/
theorem enterClosed_eq : s.enterClosed g = moved s g (enters s g c (s.gates.get g) .closed) := by
  simp [State.enterClosed, withdrawClaims_eq, toState_eq, enters, entered, asked, setGate_eq_moved, movedTo]

/-- A gate enters FAULT (R70). -/
theorem enterFault_eq (cause : GateFault) :
    s.enterFault g cause = moved s g (faults s g c (s.gates.get g) cause) := by
  simp [State.enterFault, withdrawClaims_eq, toState_eq, faults, entered, asked, setGate_eq_moved, movedTo,
    tell_eq_moved _ g]

/-- A gate enters OPEN, and with demand CLOSE goes on to WARNING (R54). -/
theorem enterOpened_eq : s.enterOpened g c = moved s g (opens s g c (s.gates.get g)) := by
  cases hd : (s.gates.get g).demand <;>
    simp [State.enterOpened, withdrawClaims_eq, toState_eq, opens, enters, entersThrough, entered, asked,
      setGate_eq_moved, movedTo, enterWarning_eq, hd]

/-! ## Demand (R52, R53) -/

/-- The demand from the settle hold, the mode and the map entry, its notice kinds told apart only as R52 does. -/
theorem demandOf_eq (settle conv : Bool) (mode : GateMode) (kind : Option NoticeKind) :
    demandOf settle mode kind conv =
      if settle = true then .closing
      else match mode with
        | .heldOpen => .opening
        | .heldClosed => .closing
        | .auto => if kind = some .fullClosure ∨ (kind = some .convoy ∧ conv = true) then .closing else .opening := by
  unfold demandOf
  cases settle
  · cases mode
    · rcases kind with _ | kind
      · simp
      · cases kind <;> simp
    · rfl
    · rfl
  · rfl

/-- The demand that a record has, in the model's form and in that of `Safety.lean` (R52). -/
theorem demandNow_eq : demandNow s c x = demandOf x.settleHold x.mode (s.mapKind c.guarded) c.onConvoy := by
  unfold demandNow
  exact (demandOf_eq ..).symm

/-- The demand of a gate as it stands (R52). -/
theorem gateDemand_eq : s.gateDemand g c = demandNow s c (s.gates.get g) := (demandNow_eq ..).symm

@[simp] theorem demandNow_moved : demandNow (moved s g m) c x = demandNow s c x := rfl

/-- What a gate does on a demand of OPEN (R54, R62 to R67). -/
theorem onDemandOpen_eq : s.onDemandOpen g c = moved s g
    (if (s.gates.get g).state = .warning ∨ (s.gates.get g).state = .waitClear then opens s g c (s.gates.get g)
    else if (s.gates.get g).state = .lowering ∨ (s.gates.get g).state = .retreat ∨ (s.gates.get g).state = .closed then
      enters s g c (s.gates.get g) .raising
    else (s.gates.get g, [])) := by
  cases hst : (s.gates.get g).state <;>
    simp [State.onDemandOpen, hst, enterOpened_eq, enterRaising_eq s g c]

/-- What a gate does on a demand of CLOSE (R54, R65). -/
theorem onDemandClose_eq : s.onDemandClose g c = moved s g
    (if (s.gates.get g).state = .opened then enters s g c (s.gates.get g) .warning else (s.gates.get g, [])) := by
  cases hst : (s.gates.get g).state <;> simp [State.onDemandClose, hst, enterWarning_eq]

/-- A gate that re-evaluates its demand moves as R52 to R55 and R62 to R67 give. -/
theorem reevaluate_eq (hc : s.cfg.gates.get g = some c) :
    s.reevaluate g = moved s g (reacts s g c (s.gates.get g)) := by
  unfold State.reevaluate reacts
  simp only [hc, gateDemand_eq]
  split
  · simp
  · cases demandNow s c (s.gates.get g)
    · simp only [onDemandOpen_eq, setGate_eq_moved]
      simp
    · simp only [onDemandClose_eq, setGate_eq_moved]
      simp
end

end Sys2Proof.Orders

namespace Sys2Proof.Orders

open Machine Safety

/-! ## The lowering test (R57, R59, R60) -/

section
variable (s : State) (g : GateId) (c : GateCfg) (p : Panel)

theorem hasRun_iff (now start d : Nat) : hasRun now start d = true ↔ start + d ≤ now := by simp [hasRun]

theorem preWarned_iff : s.preWarned g c = true ↔ PreWarned s g c := by
  simp only [State.preWarned, PreWarned, Option.any_eq_true, hasRun_iff, preWarnUs, secondUs]

theorem mem_counted_iff : p ∈ s.counted c ↔ Counts s c p := by
  have hp : p ∈ Panel.all := by cases p <;> simp [Panel.all]
  simp only [State.counted, List.mem_filter, hp, true_and, State.warnable, State.usable, Counts, Bool.and_eq_true,
    bne_iff_ne, and_assoc]

theorem counted_isEmpty_iff : (s.counted c).isEmpty = true ↔ ¬∃ p, Counts s c p := by
  simp only [List.isEmpty_iff, List.eq_nil_iff_forall_not_mem, mem_counted_iff, not_exists]

theorem shownFor_iff : s.shownFor g p (preWarnUs c) = true ↔ Shown s g c p := by
  unfold State.shownFor Shown
  cases (s.panels.get p).front.claim with
  | none => simp
  | some r =>
    cases (s.panels.get p).leadShown with
    | none => simp
    | some t =>
      simp only [Bool.and_eq_true, beq_iff_eq, List.any_eq_true, hasRun_iff, preWarnUs, secondUs]
      constructor
      · rintro ⟨⟨hid, hin⟩, hrun⟩
        exact ⟨r, t, rfl, hid, hin, rfl, hrun⟩
      · rintro ⟨_, _, ⟨⟩, hid, hin, ⟨⟩, hrun⟩
        exact ⟨⟨hid, hin⟩, hrun⟩

theorem panelPart_iff : s.panelPart g c = true ↔ PanelPart s g c := by
  simp only [State.panelPart, PanelPart, Bool.and_eq_true, Bool.not_eq_true', List.all_eq_true, mem_counted_iff,
    shownFor_iff, ← Bool.not_eq_true, counted_isEmpty_iff, not_not]

theorem mayLower_iff : s.mayLower g c = true ↔
    PreWarned s g c ∧ s.beamBroken g = false ∧ ((s.gates.get g).bypass = true ∨ PanelPart s g c) := by
  simp only [State.mayLower, Bool.and_eq_true, Bool.or_eq_true, Bool.not_eq_true', preWarned_iff, panelPart_iff]
  tauto

theorem signWaits_iff : s.signWaits g c = true ↔
    PreWarned s g c ∧ (¬∃ p, Counts s c p) ∧ (s.gates.get g).bypass = false := by
  simp only [State.signWaits, Bool.and_eq_true, Bool.not_eq_true', preWarned_iff, counted_isEmpty_iff, and_assoc]

/-- The record of a gate that enters LOWERING from WARNING (R59). -/
theorem entered_lowering_of_warning (hw : (s.gates.get g).state = .warning) :
    entered s g c (s.gates.get g) .lowering = { s.gates.get g with
      state := .lowering, lower := true, raise := false,
      flasher := (s.clock - (s.gates.get g).flashFrom) / 500000 % 2 == 0,
      motion := some s.clock, clear := none, warnEntry := none, signWait := false } := by
  simp [entered, movedTo, hw, flasherOf]

/-- A fitted gate in WARNING that tests the lowering conditions tells nothing, and its record is the one R59 and R60 give. -/
theorem testLowering_eq (hc : s.cfg.gates.get g = some c) (hw : (s.gates.get g).state = .warning) :
    ∃ y, s.testLowering g = moved s g (y, []) ∧ LoweringTested s g c (s.beamBroken g) y := by
  unfold State.testLowering LoweringTested
  simp only [hc, hw, if_true, ← mayLower_iff]
  cases hm : s.mayLower g c
  · exact ⟨_, setGate_eq_moved .., by simp, fun _ => ⟨_, rfl, signWaits_iff s g c⟩⟩
  · refine ⟨_, enterLowering_eq s g c, fun _ => entered_lowering_of_warning s g c hw, by simp⟩

/-- Outside WARNING there is nothing to test. -/
theorem testLowering_other (hw : (s.gates.get g).state ≠ .warning) : s.testLowering g = s := by
  unfold State.testLowering
  split <;> simp [hw]

end

/-! ## What keeps a gate sound (R49, R51, R60, R61, R67, R70) -/

section
variable {s : State} {g : GateId} {c : GateCfg} {x y : Gate} {m : Gate × List Instr}

/-- A sound gate that enters a state other than FAULT is sound, where it comes out of FAULT through a state that clears the
cause. -/
theorem entered_sound {st : GateState} (hx : GateSound x) (hst : st ≠ .fault)
    (hcause : x.state ≠ .fault ∨ st = .opened ∨ st = .closed ∨ st = .raising) : GateSound (entered s g c x st) := by
  obtain ⟨-, hraise, -, -, hmotion, -, -, -, hfault, hhold⟩ := hx
  cases st with
  | fault => exact absurd rfl hst
  | raising =>
    by_cases hr : x.state = .retreat
    · simp_all [GateSound, entered, movedTo]
    · simp_all [GateSound, entered, movedTo]
  | _ => simp_all [GateSound, entered, movedTo, flasherOf]

/-- A sound gate that enters FAULT with a cause is sound. -/
theorem faults_sound (hx : GateSound x) (cause : GateFault) : GateSound (faults s g c x cause).1 := by
  obtain ⟨-, -, -, -, -, -, -, -, -, hhold⟩ := hx
  simp [GateSound, faults, entered, movedTo, hhold]

/-- A sound gate that enters OPEN, and goes on to WARNING where its demand is CLOSE, is sound. -/
theorem opens_sound (hx : GateSound x) : GateSound (opens s g c x).1 := by
  have ho : GateSound (entered s g c x .opened) := entered_sound hx nofun (.inr (.inl rfl))
  unfold opens
  split
  · exact ho
  · exact entered_sound ho nofun (.inl nofun)

/-- A sound gate that re-evaluates its demand is sound. -/
theorem reacts_sound (hx : GateSound x) : GateSound (reacts s g c x).1 := by
  have hy : ∀ d, GateSound { x with demand := d } := fun _ => hx
  unfold reacts
  dsimp only
  split_ifs with _ _ _ _ hst
  · exact hx
  · exact opens_sound (hy _)
  · exact entered_sound (hy _) nofun (.inr (.inr (.inr rfl)))
  · exact hy _
  · exact entered_sound (hy _) nofun (.inl fun hf => nomatch hst.symm.trans hf)
  · exact hy _

/-- The record that the lowering test leaves is sound. -/
theorem loweringTested_sound {beam : Bool} (hx : GateSound (s.gates.get g)) (hw : (s.gates.get g).state = .warning)
    (h : LoweringTested s g c beam y) : GateSound y := by
  obtain ⟨hlow, hstay⟩ := h
  by_cases hc : PreWarned s g c ∧ beam = false ∧ ((s.gates.get g).bypass = true ∨ PanelPart s g c)
  · rw [hlow hc, ← entered_lowering_of_warning s g c hw]
    exact entered_sound hx nofun (.inl fun hf => nomatch hw.symm.trans hf)
  · obtain ⟨b, rfl, -⟩ := hstay hc
    obtain ⟨hlower, hraise, hopen, hclosed, hmotion, hclear, hwarn, -, hfault, hhold⟩ := hx
    exact ⟨hlower, hraise, hopen, hclosed, hmotion, hclear, hwarn, fun _ => hw, hfault, hhold⟩

/-- Drives that follow the state are never on together (R51). -/
theorem drivesApart_of_sound (hs : GatesSound s) : DrivesApart s := by
  intro g
  obtain ⟨hlower, hraise, -⟩ := hs g
  rw [hlower, hraise]
  rintro ⟨hl, hr⟩
  rw [hl] at hr
  simp at hr

/-- Gates stay sound where none of them changes. -/
theorem gatesSound_of_eq {t : State} (hs : GatesSound s) (h : t.gates = s.gates) : GatesSound t := by
  unfold GatesSound
  rwa [h]

/-- Gates stay sound where one of them moves to a sound record. -/
theorem moved_sound (hs : GatesSound s) (hm : GateSound m.1) : GatesSound (moved s g m) := by
  intro h
  by_cases e : h = g
  · simpa [e] using hm
  · rw [moved_gates_other _ _ _ _ e]
    exact hs h

theorem setGate_sound (hs : GatesSound s) (hx : GateSound x) : GatesSound (s.setGate g x) := by
  rw [setGate_eq_moved]
  exact moved_sound hs hx

/-! ## Every gate operation keeps the gates sound -/

theorem enterFault_sound (c : GateCfg) (hs : GatesSound s) (cause : GateFault) : GatesSound (s.enterFault g cause) := by
  rw [enterFault_eq s g c]
  exact moved_sound hs (faults_sound (hs g) cause)

theorem reevaluate_sound (hs : GatesSound s) : GatesSound (s.reevaluate g) := by
  cases hc : s.cfg.gates.get g with
  | none => simpa [State.reevaluate, hc] using hs
  | some c =>
    rw [reevaluate_eq s g c hc]
    exact moved_sound hs (reacts_sound (hs g))

theorem testLowering_sound (hs : GatesSound s) : GatesSound (s.testLowering g) := by
  by_cases hw : (s.gates.get g).state = .warning
  · cases hc : s.cfg.gates.get g with
    | none => simpa [State.testLowering, hc] using hs
    | some c =>
      obtain ⟨y, hy, ht⟩ := testLowering_eq s g c hc hw
      rw [hy]
      exact moved_sound hs (loweringTested_sound (hs g) hw ht)
  · rwa [testLowering_other s g hw]

theorem testForPanel_sound (hs : GatesSound s) (p : Panel) : GatesSound (s.testForPanel p g) := by
  unfold State.testForPanel
  split
  · split
    · exact testLowering_sound hs
    · exact hs
  · exact hs

end
end Sys2Proof.Orders

namespace Sys2Proof.Orders

open Machine Safety

/-! ## What leaves the gates alone

The gates are read by other blocks and written by their controllers only: every other operation of the model keeps them. -/

section
variable (s : State)

/-- What keeps the gates for each item of a list keeps them for the list. -/
theorem foldl_gates {α : Type} (f : State → α → State) (h : ∀ s x, (f s x).gates = s.gates) (xs : List α) (s : State) :
    (xs.foldl f s).gates = s.gates := by
  induction xs generalizing s with
  | nil => rfl
  | cons x xs ih => rw [List.foldl_cons, ih, h]

/-! ### The notice table -/

theorem commit_gates : s.commit.gates = s.gates := by
  have h := congrArg State.gates s.commit_frame
  exact h

theorem setPending_gates (ks : List NoticeKey) : (s.setPending ks).gates = s.gates := by
  have h := congrArg State.gates (s.setPending_frame ks)
  exact h

theorem report_gates (b a : Option Notice) (c : ChangeCause) : (s.report b a c).gates = s.gates := by
  have h := congrArg State.gates (s.report_frame b a c)
  exact h

theorem requestFrame_gates (i : Nat) (purpose : Purpose) (hop : Nat) :
    (s.requestFrame i purpose hop).gates = s.gates := by
  have h := congrArg State.gates (s.requestFrame_frame i purpose hop)
  exact h

theorem leave_gates (i : Nat) (cause : ChangeCause) : (s.leave i cause).gates = s.gates := by
  rcases s.leave_cases i cause with ⟨-, h⟩ | ⟨r, told, -, h⟩ <;> rw [h]

theorem enter_gates (i : Nat) (r : NoticeRecord) (cause : ChangeCause) : (s.enter i r cause).gates = s.gates := by
  rw [State.enter, report_gates, State.setSlot_gates, leave_gates]

theorem rewrite_gates (i : Nat) (old new : NoticeRecord) (cause : ChangeCause) :
    (s.rewrite i old new cause).gates = s.gates := by
  rw [State.rewrite, report_gates, State.setSlot_gates]

theorem relay_gates (i hop : Nat) : (s.relay i hop).gates = s.gates := by
  unfold State.relay
  split
  · rfl
  · exact requestFrame_gates ..

theorem newCopy_gates (n : Notice) (remaining hop : Nat) : (s.newCopy n remaining hop).gates = s.gates := by
  unfold State.newCopy
  split
  · rw [commit_gates, relay_gates, enter_gates]
  · rfl

theorem replaceCopy_gates (i : Nat) (r : NoticeRecord) (n : Notice) (remaining hop : Nat) :
    (s.replaceCopy i r n remaining hop).gates = s.gates := by
  rw [State.replaceCopy, commit_gates, relay_gates, rewrite_gates]

theorem duplicateCopy_gates (i : Nat) (r : NoticeRecord) (hop : Nat) : (s.duplicateCopy i r hop).gates = s.gates := by
  unfold State.duplicateCopy
  dsimp only
  split <;> rfl

theorem staleCopy_gates (i : Nat) (r : NoticeRecord) : (s.staleCopy i r).gates = s.gates := by
  unfold State.staleCopy
  dsimp only
  split <;> rfl

theorem goodCopy_gates (n : Notice) (remaining hop : Nat) : (s.goodCopy n remaining hop).gates = s.gates := by
  unfold State.goodCopy
  repeat' split
  · exact newCopy_gates ..
  · rfl
  · exact replaceCopy_gates ..
  · exact duplicateCopy_gates ..
  · exact staleCopy_gates ..

theorem takeNoticeFrame_gates : s.takeNoticeFrame.gates = s.gates := by
  unfold State.takeNoticeFrame
  split
  · rfl
  · dsimp only
    split
    · rfl
    · rw [goodCopy_gates, State.setLine_gates]

theorem expireDue_gates : s.expireDue.gates = s.gates := by
  unfold State.expireDue
  split
  · rfl
  · rw [commit_gates, foldl_gates]
    intro s x
    rw [State.expireSlot, State.withdrawGone_gates, rewrite_gates]

theorem purgeDue_gates : s.purgeDue.gates = s.gates := by
  unfold State.purgeDue
  split
  · rfl
  · rw [commit_gates, foldl_gates]
    exact fun s x => leave_gates ..

theorem refreshSlot_gates (i : Nat) : (s.refreshSlot i).gates = s.gates := by
  unfold State.refreshSlot
  split
  · rw [setPending_gates, State.setSlot_gates, requestFrame_gates]
  · rfl

theorem refresh_gates (t : Nat) : (s.refresh t).gates = s.gates := by
  unfold State.refresh
  dsimp only
  split
  · rfl
  · split
    · exact refreshSlot_gates ..
    · rfl

theorem setCatchUp_gates : s.setCatchUp.gates = s.gates := by
  unfold State.setCatchUp
  dsimp only
  split
  · exact setPending_gates ..
  · split <;> rfl

theorem issueNotice_gates (q : IssueRequest) (named : List NoticeKey) (cause : ChangeCause) (t : State) (k : NoticeKey)
    (h : s.issueNotice q named cause = some (t, k)) : t.gates = s.gates := by
  unfold State.issueNotice at h
  split at h
  · cases h
  · cases h
    rw [requestFrame_gates, enter_gates]

theorem amendSlot_gates (i level : Nat) (kind : NoticeKind) (first last remaining : Nat) (message : Option Nat) :
    (s.amendSlot i level kind first last remaining message).gates = s.gates := by
  unfold State.amendSlot
  split
  · rw [requestFrame_gates, rewrite_gates]
  · rfl

theorem liftSlot_gates (i : Nat) (cause : ChangeCause) : (s.liftSlot i cause).gates = s.gates := by
  unfold State.liftSlot
  split
  · rw [requestFrame_gates, rewrite_gates]
  · rfl

/-! ### The stacks -/

theorem changeStack_gates (p : Panel) (f : List Claim → List Claim) : (s.changeStack p f).gates = s.gates := by
  have h := congrArg State.gates (s.changeStack_frame p f)
  exact h

theorem changeStacks_gates (f : Panel → List Claim → List Claim) : (s.changeStacks f).gates = s.gates :=
  foldl_gates _ (fun s p => changeStack_gates s p _) _ _

theorem evaluateRules_gates : s.evaluateRules.gates = s.gates := by
  unfold State.evaluateRules
  dsimp only
  exact changeStacks_gates ..

theorem gateClaims_gates (g : GateId) (ask : GateAsk) : (s.gateClaims g ask).gates = s.gates := by
  unfold State.gateClaims
  split
  · exact changeStacks_gates ..
  · rfl

theorem reformat_gates (p : Panel) : (s.reformat p).gates = s.gates := by
  unfold State.reformat
  repeat' split
  all_goals rfl

/-! ### The hazard records and the peer table -/

theorem recomputeEffective_gates : s.recomputeEffective.gates = s.gates := by
  rw [s.recomputeEffective_frame]

theorem hearReport_gates (r : ChangeReport) : (s.hearReport r).gates = s.gates := by
  rw [s.hearReport_frame r]

theorem hearAndCompute_gates : s.hearAndCompute.gates = s.gates := by
  rw [s.hearAndCompute_frame]

theorem automaticIssue_gates (i : Nat) (c : PathCfg) (kind : NoticeKind) :
    (s.automaticIssue i c kind).gates = s.gates := by
  unfold State.automaticIssue
  split
  · rename_i t k h
    rw [State.setPath_gates, commit_gates, issueNotice_gates s _ _ _ t k h]
  · rfl

theorem goodBulletin_gates (sender : Nat) (b : Bulletin) : (s.goodBulletin sender b).gates = s.gates := by
  unfold State.goodBulletin
  repeat' split
  all_goals rfl

theorem takeBulletinFrame_gates : s.takeBulletinFrame.gates = s.gates := by
  unfold State.takeBulletinFrame
  split
  · rfl
  · dsimp only
    split
    · rfl
    · rw [goodBulletin_gates, State.setLine_gates]

theorem outOfPlay_gates (sender : Nat) : (s.outOfPlay sender).gates = s.gates := by
  rw [State.outOfPlay, State.gateAheadClaims, changeStacks_gates, recomputeEffective_gates]

/-! ### The panels -/

theorem startFrame_gates (p : Panel) : (s.startFrame p).gates = s.gates := by
  unfold State.startFrame
  dsimp only
  split <;> rfl

theorem checkRow_gates (p : Panel) (row : Nat) (current : Bool) : (s.checkRow p row current).gates = s.gates := by
  unfold State.checkRow
  dsimp only
  repeat' split
  all_goals rfl

theorem recoverPanel_gates (p : Panel) : (s.recoverPanel p).gates = s.gates := by
  unfold State.recoverPanel
  dsimp only
  split <;> rfl

/-! ### The pass line and the port -/

theorem endGap_gates : s.endGap.gates = s.gates := by
  unfold State.endGap
  split <;> rfl

theorem lineBusy_gates : s.lineBusy.gates = s.gates := endGap_gates s

theorem goodFrame_gates (kind : Byte) (f : RxFrame) : (s.goodFrame kind f).gates = s.gates := by
  unfold State.goodFrame
  dsimp only
  repeat' split
  all_goals rfl

theorem assemble_gates (c : Byte) (err : Bool) : (s.assemble c err).gates = s.gates := by
  unfold State.assemble
  split
  · rfl
  · rfl
  · rfl
  · exact goodFrame_gates ..

theorem startSending_gates (f : Frame) (rest : List Frame) : (s.startSending f rest).gates = s.gates := by
  have h : s.abandonReceive.gates = s.gates := by
    unfold State.abandonReceive
    split <;> rfl
  exact h

theorem collide_gates (x : Sending) : (s.collide x).gates = s.gates := by
  unfold State.collide
  dsimp only
  repeat' split
  all_goals rfl

theorem sendOn_gates (x : Sending) : (s.sendOn x).gates = s.gates := by
  unfold State.sendOn
  split <;> rfl

theorem gather_gates (got : List Byte) : (s.gather got).gates = s.gates := by
  unfold State.gather
  repeat' split
  all_goals rfl

theorem receive_gates (got : List Byte) (gap : Nat) (c : Byte) (bad : Bool) :
    (s.receive got gap c bad).gates = s.gates := by
  unfold State.receive
  split
  · rfl
  · split
    · rfl
    · exact gather_gates ..

theorem answer_gates (data : Option (List Byte)) : (s.answer data).gates = s.gates := by
  cases data <;> rfl

end
end Sys2Proof.Orders

namespace Sys2Proof.Orders

open Machine Safety

/-! ## Limits, beam, recovery and start -/

section
variable {s : State} {g : GateId}

theorem upReached_sound (c : GateCfg) (hs : GatesSound s) : GatesSound (s.upReached g c) := by
  unfold State.upReached
  split
  · exact hs
  · rename_i hf
    split_ifs
    · exact enterFault_sound c hs _
    · rw [enterOpened_eq]
      exact moved_sound hs (opens_sound (hs g))
    · rw [enterWaitClear_eq s g c]
      exact moved_sound hs (entered_sound (hs g) nofun (.inl hf))
    · exact hs

theorem upLost_sound (c : GateCfg) (hs : GatesSound s) : GatesSound (s.upLost g) := by
  unfold State.upLost
  split
  case h_1 | h_2 | h_3 => exact enterFault_sound c hs _
  all_goals exact hs

theorem downReached_sound (c : GateCfg) (hs : GatesSound s) : GatesSound (s.downReached g) := by
  unfold State.downReached
  split
  · exact hs
  · split_ifs
    · exact enterFault_sound c hs _
    · rw [enterClosed_eq s g c]
      exact moved_sound hs (entered_sound (hs g) nofun (.inr (.inr (.inl rfl))))
    · exact hs

theorem downLost_sound (c : GateCfg) (hs : GatesSound s) : GatesSound (s.downLost g) := by
  unfold State.downLost
  split
  · exact enterFault_sound c hs _
  · exact hs

theorem beamBreaks_sound (c : GateCfg) (hs : GatesSound s) : GatesSound (s.beamBreaks g) := by
  unfold State.beamBreaks
  dsimp only
  split
  · rename_i hl
    have hx : GatesSound (s.setGate g { s.gates.get g with retreats := (s.gates.get g).retreats + 1 }) :=
      setGate_sound hs (hs g)
    split
    · exact enterFault_sound c hx _
    · rw [enterRetreat_eq _ g c]
      refine moved_sound hx (entered_sound (hx g) nofun (.inl ?_))
      simp [hl]
  · rename_i hw
    obtain ⟨hlower, hraise, hopen, hclosed, hmotion, -, hwarn, hsign, hfault, hhold⟩ := hs g
    exact setGate_sound hs ⟨hlower, hraise, hopen, hclosed, hmotion, nofun, hwarn, hsign, hfault, hhold⟩
  all_goals exact hs

theorem beamClears_sound (hs : GatesSound s) : GatesSound (s.beamClears g) := by
  unfold State.beamClears
  split
  · rename_i hw
    obtain ⟨hlower, hraise, hopen, hclosed, hmotion, -, hwarn, hsign, hfault, hhold⟩ := hs g
    exact setGate_sound hs ⟨hlower, hraise, hopen, hclosed, hmotion, fun _ => hw, hwarn, hsign, hfault, hhold⟩
  · exact testLowering_sound hs
  all_goals exact hs

/-- A change of one of a gate's inputs keeps the gates sound (R62 to R69). -/
theorem gateInput_sound (hs : GatesSound s) (r : InputRole) (active : Bool) : GatesSound (s.gateInput r active) := by
  unfold State.gateInput
  split
  case h_1 =>
    split
    · split
      · exact upReached_sound _ hs
      · exact upLost_sound ‹_› hs
    · exact hs
  case h_2 =>
    split
    · rename_i hc
      obtain ⟨c, -⟩ := Option.isSome_iff_exists.mp hc
      split
      · exact downReached_sound c hs
      · exact downLost_sound c hs
    · exact hs
  case h_3 =>
    split
    · rename_i hc
      obtain ⟨c, -⟩ := Option.isSome_iff_exists.mp hc
      split
      · exact beamBreaks_sound c hs
      · exact beamClears_sound hs
    · exact hs
  all_goals exact hs

theorem tellOwner_sound (hs : GatesSound s) (c : InputCfg) (active : Bool) : GatesSound (s.tellOwner c active) := by
  unfold State.tellOwner
  split
  case h_4 =>
    split
    · exact hs
    · exact hs
  case h_5 =>
    split
    · exact gatesSound_of_eq hs (lineBusy_gates s)
    · exact hs
  case h_1 | h_2 | h_3 => exact gateInput_sound hs _ _
  all_goals exact hs

theorem takeChange_sound (hs : GatesSound s) (i : Nat) (x : Input) : GatesSound (s.takeChange i x) :=
  tellOwner_sound (s := (s.setInput i x.taken).follow) hs _ _

theorem terminalChange_sound (hs : GatesSound s) (i : Nat) (x : Input) (active : Bool) :
    GatesSound (s.terminalChange i x active) := by
  unfold State.terminalChange
  dsimp only
  split_ifs
  · exact hs
  · exact hs
  · exact takeChange_sound hs _ _
  · exact hs

/-! ### Recovery (R71) -/

/-- What a gate in FAULT with a record leaves and asks as it recovers from its limits (R71). -/
def recovers (s : State) (g : GateId) (c : GateCfg) (x : Gate) : Gate × List Instr :=
  let y := { x with demand := demandNow s c x }
  match s.up g, s.down g with
  | true, false => opens s g c y
  | false, true => if y.demand = .opening then entersThrough s g c y .closed .raising else enters s g c y .closed
  | false, false => enters s g c y .raising
  | true, true => ({ x with cause := some .limitConflict }, [])

theorem refreshDemand_eq (c : GateCfg) :
    s.refreshDemand g c = moved s g ({ s.gates.get g with demand := demandNow s c (s.gates.get g) }, []) := by
  rw [State.refreshDemand, gateDemand_eq, setGate_eq_moved]

theorem recoverGate_eq (c : GateCfg) (hf : (s.gates.get g).state = .fault) :
    s.recoverGate g c = moved s g (recovers s g c (s.gates.get g)) := by
  unfold State.recoverGate recovers
  simp only [hf, if_true, refreshDemand_eq, gateDemand_eq, enterOpened_eq, enterClosed_eq _ g c, enterRaising_eq _ g c,
    setGate_eq_moved]
  cases s.up g <;> cases s.down g
  · simp
  · by_cases hd : demandNow s c (s.gates.get g) = .opening <;> simp [hd, enters, entersThrough]
  · simp
  · simp

theorem recovers_sound {x : Gate} (c : GateCfg) (hx : GateSound x) (hf : x.state = .fault) :
    GateSound (recovers s g c x).1 := by
  have hy : GateSound { x with demand := demandNow s c x } := hx
  have hclosed := entered_sound (s := s) (g := g) (c := c) (st := .closed) hy nofun (.inr (.inr (.inl rfl)))
  unfold recovers
  dsimp only
  split
  · exact opens_sound hy
  · split
    · exact entered_sound hclosed nofun (.inl nofun)
    · exact hclosed
  · exact entered_sound hy nofun (.inr (.inr (.inr rfl)))
  · obtain ⟨hlower, hraise, hopen, hclosed, hmotion, hclear, hwarn, hsign, -, hhold⟩ := hx
    exact ⟨hlower, hraise, hopen, hclosed, hmotion, hclear, hwarn, hsign, by simp [hf], hhold⟩

theorem recoverGate_sound (c : GateCfg) (hs : GatesSound s) : GatesSound (s.recoverGate g c) := by
  by_cases hf : (s.gates.get g).state = .fault
  · rw [recoverGate_eq c hf]
    exact moved_sound hs (recovers_sound c (hs g) hf)
  · simpa [State.recoverGate, hf] using hs

/-! ### Start and settle end (R72, R73) -/

theorem startGate_sound (up down : Bool) (c : GateCfg) (now : Nat) : GateSound (startGate up down c now) := by
  cases up <;> cases down <;> simp [GateSound, startGate, Gate.enter, Gate.reset, flasherLevel]

theorem foldl_sound {α : Type} {f : State → α → State} (h : ∀ u x, GatesSound u → GatesSound (f u x)) (xs : List α)
    (s : State) (hs : GatesSound s) : GatesSound (xs.foldl f s) := by
  induction xs generalizing s with
  | nil => exact hs
  | cons x xs ih => exact ih _ (h s x hs)

theorem startGates_sound (hs : GatesSound s) : GatesSound s.startGates := by
  refine foldl_sound (fun u g hu => ?_) _ s hs
  split
  · exact setGate_sound hu (startGate_sound ..)
  · exact hu

theorem enterRunning_sound (c : StationCfg) (hs : GatesSound s) : GatesSound (s.enterRunning c) := by
  have hc : (s.configure c).gates = s.gates := rfl
  have ht : GatesSound (s.configure c).startGates := startGates_sound (gatesSound_of_eq hs hc)
  exact gatesSound_of_eq ht (by simp [State.enterRunning])

theorem releaseSettle_sound (hs : GatesSound s) : GatesSound (s.releaseSettle g) :=
  reevaluate_sound (setGate_sound hs (hs g))

theorem endSettle_sound (hs : GatesSound s) : GatesSound s.endSettle := by
  unfold State.endSettle
  exact foldl_sound (fun u g hu => releaseSettle_sound hu) _ _ (gatesSound_of_eq hs rfl)

theorem doReset_sound (s : State) : GatesSound s.doReset := by
  intro g
  cases g <;> simp [State.doReset, State.reset, PerGate.get, GateSound, Gate.reset]

/-! ### Orders (R38, R44, R45) -/

theorem setMode_sound (hs : GatesSound s) (gate : Nat) (mode : GateMode) (level : Option Nat)
    (h : level.isSome = true ↔ mode ≠ .auto) : GatesSound (s.setMode gate mode level) := by
  unfold State.setMode
  split
  · rename_i g _
    obtain ⟨hlower, hraise, hopen, hclosed, hmotion, hclear, hwarn, hsign, hfault, -⟩ := hs g
    exact setGate_sound hs ⟨hlower, hraise, hopen, hclosed, hmotion, hclear, hwarn, hsign, hfault, h⟩
  · exact hs

theorem setBypass_sound (hs : GatesSound s) (gate : Nat) : GatesSound (s.setBypass gate) := by
  unfold State.setBypass
  split
  · split
    · exact hs
    · exact setGate_sound hs (hs _)
  · exact hs

theorem applyNotice_gates (s : State) (e : Nat) (named : List NoticeKey) (a : OrderAction) :
    (s.applyNotice e named a).1.gates = s.gates := by
  unfold State.applyNotice
  split
  case h_1 =>
    repeat' split
    · exact issueNotice_gates _ _ _ _ _ _ ‹_›
    · rfl
    · rfl
  case h_2 =>
    split
    · exact amendSlot_gates ..
    · rfl
  case h_3 =>
    split
    · exact liftSlot_gates ..
    · rfl
  all_goals rfl

theorem applyNotices_gates (e : Nat) (named : List NoticeKey) (acts : List OrderAction) (s : State) :
    (s.applyNotices e named acts).1.gates = s.gates := by
  induction acts generalizing s with
  | nil => rfl
  | cons a rest ih => exact (ih _).trans (applyNotice_gates ..)

theorem applyRecord_sound (hs : GatesSound s) (e : Nat) (a : OrderAction) : GatesSound (s.applyRecord e a) := by
  unfold State.applyRecord
  split
  case h_1 | h_2 =>
    split
    · exact gatesSound_of_eq hs (changeStack_gates ..)
    · exact hs
  case h_3 | h_4 | h_5 => exact setMode_sound hs _ _ _ (by simp)
  case h_6 => exact setBypass_sound (setMode_sound hs _ _ _ (by simp)) _
  all_goals exact hs

theorem applyEffect_sound (hs : GatesSound s) (a : OrderAction) : GatesSound (s.applyEffect a) := by
  unfold State.applyEffect
  split
  case h_1 gate | h_2 gate | h_3 gate =>
    cases GateId.ofCode gate
    · exact hs
    · exact reevaluate_sound hs
  case h_4 gate =>
    cases GateId.ofCode gate
    · exact hs
    · exact testLowering_sound (reevaluate_sound hs)
  case h_5 object =>
    split
    case h_1 code _ =>
      cases Panel.ofCode code
      · exact hs
      · exact gatesSound_of_eq hs (recoverPanel_gates ..)
    case h_2 code =>
      split
      · rename_i g _
        cases s.cfg.gates.get g
        · exact hs
        · exact recoverGate_sound _ hs
      · exact hs
    all_goals exact hs
  all_goals exact hs

theorem applyBundle_sound (hs : GatesSound s) (e : Nat) (acts : List OrderAction) :
    GatesSound (s.applyBundle e acts).1 := by
  unfold State.applyBundle
  refine foldl_sound (fun u a hu => applyEffect_sound hu a) _ _
    (foldl_sound (fun u a hu => applyRecord_sound hu e a) _ _ ?_)
  split
  · exact gatesSound_of_eq hs ((commit_gates _).trans (applyNotices_gates ..))
  · exact gatesSound_of_eq hs (applyNotices_gates ..)

/-- A bundle, refused or applied, keeps the gates sound. -/
theorem takeBundle_sound (hs : GatesSound s) (requested : Nat) (acts : List OrderAction) :
    GatesSound (s.takeBundle requested acts) := by
  unfold State.takeBundle
  split
  · exact hs
  · exact applyBundle_sound hs _ _

end
end Sys2Proof.Orders

namespace Sys2Proof.Orders

open Machine Safety

/-! ## Every command keeps the gates sound -/

section
variable {s t : State} {c : Instr} {f : State → State}

theorem event_sound (hs : GatesSound s) (h : s.event c f = .next t)
    (hf : ∀ u, GatesSound u → GatesSound (f u)) : GatesSound t := by
  rcases s.event_next t c f h with ⟨-, rfl⟩ | ⟨-, rfl⟩
  · exact hf _ hs
  · exact hs

/-- A command of a block that leaves the gates alone keeps them sound. -/
theorem event_keeps (hs : GatesSound s) (h : s.event c f = .next t) (hf : ∀ u, (f u).gates = u.gates) : GatesSound t :=
  event_sound hs h fun u hu => gatesSound_of_eq hu (hf u)

theorem serve_sound (hs : GatesSound s) (h : s.serve c f = .next t)
    (hf : ∀ u, GatesSound u → GatesSound (f u)) : GatesSound t := by
  rcases s.serve_next t c f h with rfl | rfl | rfl
  · exact hf _ hs
  · exact hs
  · exact hs

/-- A request that leaves the gates alone keeps them sound. -/
theorem serve_keeps (hs : GatesSound s) (h : s.serve c f = .next t) (hf : ∀ u, (f u).gates = u.gates) : GatesSound t :=
  serve_sound hs h fun u hu => gatesSound_of_eq hu (hf u)

/-- A request answered in every state in which the port runs, which leaves the gates alone, keeps them sound. -/
theorem serveAlways_keeps (hs : GatesSound s) (h : s.serveAlways c f = .next t) (hf : ∀ u, (f u).gates = u.gates) :
    GatesSound t := by
  cases h
  split
  · exact gatesSound_of_eq hs (hf _)
  · exact hs

/-- Everything else answers a state whose gates are to be shown sound. -/
theorem next_sound {u : State} (hu : GatesSound u) (h : Host.Outcome.next (φ := Fault) (ρ := Refusal) u = .next t) :
    GatesSound t := by
  cases h
  exact hu

theorem flasher_sound {g : GateId} (hs : GatesSound s) : GatesSound (s.setGate g { s.gates.get g with
    flasher := flasherLevel (s.gates.get g).state (s.gates.get g).flashFrom s.clock }) := by
  obtain ⟨hlower, hraise, -, -, hmotion, hclear, hwarn, hsign, hfault, hhold⟩ := hs g
  exact setGate_sound hs ⟨hlower, hraise, fun ho => by simp_all [flasherLevel], fun hc => by simp_all [flasherLevel],
    hmotion, hclear, hwarn, hsign, hfault, hhold⟩

theorem execLoadingEntry_sound (hs : GatesSound s) (h : execLoadingEntry s = .next t) : GatesSound t := by
  refine next_sound (gatesSound_of_eq hs ?_) h
  split <;> rfl

theorem execLoadingEnd_sound (hs : GatesSound s) (image : Image) (h : execLoadingEnd image s = .next t) :
    GatesSound t := by
  refine next_sound ?_ h
  split
  · split
    · exact hs
    · exact enterRunning_sound _ hs
  · exact hs

theorem execSettleEnd_sound (hs : GatesSound s) (h : execSettleEnd s = .next t) : GatesSound t := by
  refine event_sound hs h fun u hu => ?_
  split
  · exact endSettle_sound hu
  · exact hu

theorem execNoticeExpiry_sound (hs : GatesSound s) (h : execNoticeExpiry s = .next t) : GatesSound t := by
  refine event_keeps hs h fun u => ?_
  split
  · exact expireDue_gates u
  · rfl

theorem execTombstonePurge_sound (hs : GatesSound s) (h : execTombstonePurge s = .next t) : GatesSound t := by
  refine event_keeps hs h fun u => ?_
  split
  · exact purgeDue_gates u
  · rfl

theorem execRefreshTick_sound (hs : GatesSound s) (h : execRefreshTick s = .next t) : GatesSound t := by
  refine event_keeps hs h fun u => ?_
  split
  · split
    · exact refresh_gates u _
    · rfl
  · rfl

theorem execOrder_sound (hs : GatesSound s) (body : List Byte) (h : execOrder body s = .next t) : GatesSound t := by
  refine serve_sound hs h fun u hu => ?_
  split
  · exact hu
  · exact takeBundle_sound hu _ _

theorem execReadDescriptor_sound (hs : GatesSound s) (d : Nat) (h : execReadDescriptor d s = .next t) :
    GatesSound t := by
  refine serve_keeps hs h fun u => ?_
  split <;> rfl

theorem execClearLatches_sound (hs : GatesSound s) (inputs faults : Word16)
    (h : execClearLatches inputs faults s = .next t) : GatesSound t := by
  refine serve_keeps hs h fun u => ?_
  split <;> rfl

theorem execServicePortCharacter_sound (hs : GatesSound s) (ch : Byte) (framingError parityError : Bool)
    (h : execServicePortCharacter ch framingError parityError s = .next t) : GatesSound t := by
  refine next_sound (gatesSound_of_eq hs ?_) h
  split
  · rfl
  · dsimp only
    split
    · rfl
    · exact receive_gates ..
    · rfl
    · rfl

theorem execRequestGapTimeout_sound (hs : GatesSound s) (h : execRequestGapTimeout s = .next t) : GatesSound t := by
  refine next_sound (gatesSound_of_eq hs ?_) h
  split
  · split <;> rfl
  all_goals rfl

theorem execResponseComplete_sound (hs : GatesSound s) (h : execResponseComplete s = .next t) : GatesSound t := by
  refine next_sound ?_ h
  split
  · split
    · exact gatesSound_of_eq (doReset_sound (s.take .responseComplete)) rfl
    · refine gatesSound_of_eq hs ?_
      unfold State.applySetting
      split <;> rfl
  all_goals exact hs

theorem execLeadStateReport_sound (hs : GatesSound s) (p : Panel) (h : execLeadStateReport p s = .next t) :
    GatesSound t := by
  exact event_sound hs h fun _ hu => foldl_sound (fun _ g hv => testForPanel_sound hv p) _ _ hu

theorem execMotionLimitExpiry_sound (hs : GatesSound s) (g : GateId) (h : execMotionLimitExpiry g s = .next t) :
    GatesSound t := by
  refine event_sound hs h fun u hu => ?_
  split
  · split
    · exact enterFault_sound ‹_› hu _
    · exact hu
  · exact hu

theorem execBeamClearTimeExpiry_sound (hs : GatesSound s) (g : GateId) (h : execBeamClearTimeExpiry g s = .next t) :
    GatesSound t := by
  refine event_sound hs h fun u hu => ?_
  split
  · rename_i cfg _ _ _
    split
    · rename_i hw
      rw [enterLowering_eq u g cfg]
      exact moved_sound hu (entered_sound (hu g) nofun (.inl fun hf => nomatch hw.1.symm.trans hf))
    · exact hu
  · exact hu

theorem execFlasherPhase_sound (hs : GatesSound s) (g : GateId) (h : execFlasherPhase g s = .next t) :
    GatesSound t := by
  refine event_sound hs h fun u hu => ?_
  split
  · exact flasher_sound hu
  · exact hu

theorem execWeatherRuleEvaluation_sound (hs : GatesSound s) (h : execWeatherRuleEvaluation s = .next t) :
    GatesSound t := by
  refine event_keeps hs h fun u => ?_
  split
  · exact evaluateRules_gates u
  · rfl

theorem execPostEnd_sound (hs : GatesSound s) (h : execPostEnd s = .next t) : GatesSound t := by
  refine event_keeps hs h fun u => ?_
  split
  · exact changeStacks_gates u _
  · rfl

theorem execRenderTrigger_sound (hs : GatesSound s) (p : Panel) (lead : Option Lead)
    (h : execRenderTrigger p lead s = .next t) : GatesSound t := by
  refine event_keeps hs h fun u => ?_
  split <;> rfl

theorem execRenderComplete_sound (hs : GatesSound s) (p : Panel) (h : execRenderComplete p s = .next t) :
    GatesSound t := by
  refine event_keeps hs h fun u => ?_
  split <;> rfl

theorem execFrameStart_sound (hs : GatesSound s) (p : Panel) (h : execFrameStart p s = .next t) : GatesSound t := by
  refine event_keeps hs h fun u => ?_
  split
  · split
    · exact startFrame_gates u p
    · rfl
  · rfl

theorem execFlashPeriodExpiry_sound (hs : GatesSound s) (p : Panel) (h : execFlashPeriodExpiry p s = .next t) :
    GatesSound t := by
  refine event_keeps hs h fun u => ?_
  split
  · dsimp only
    split <;> rfl
  · rfl

theorem execLampCheckSample_sound (hs : GatesSound s) (p : Panel) (h : execLampCheckSample p s = .next t) :
    GatesSound t := by
  refine event_keeps hs h fun u => ?_
  split
  · dsimp only
    split
    · split
      · exact checkRow_gates ..
      · rfl
    · rfl
  · rfl

theorem execBrightnessEvaluation_sound (hs : GatesSound s) (p : Panel) (light : Int)
    (h : execBrightnessEvaluation p light s = .next t) : GatesSound t := by
  refine event_keeps hs h fun u => ?_
  split <;> rfl

theorem execScanStart_sound (hs : GatesSound s) (h : execScanStart s = .next t) : GatesSound t := by
  refine event_keeps hs h fun u => ?_
  split
  · split <;> rfl
  · rfl

theorem execScanComplete_sound (hs : GatesSound s) (raws : List Raw) (h : execScanComplete raws s = .next t) :
    GatesSound t := by
  refine event_keeps hs h fun u => ?_
  split
  · split <;> rfl
  · rfl

theorem execSlidePulse_sound (hs : GatesSound s) (h : execSlidePulse s = .next t) : GatesSound t := by
  refine event_keeps hs h fun u => ?_
  split <;> rfl

theorem execHourlyAppend_sound (hs : GatesSound s) (h : execHourlyAppend s = .next t) : GatesSound t := by
  refine event_keeps hs h fun u => ?_
  split
  · exact hearAndCompute_gates u.closeHour
  · rfl

theorem execHazardComputation_sound (hs : GatesSound s) (h : execHazardComputation s = .next t) : GatesSound t := by
  refine event_keeps hs h fun u => ?_
  split
  · exact hearAndCompute_gates u
  · rfl

theorem execAutomaticIssue_sound (hs : GatesSound s) (path : Nat) (h : execAutomaticIssue path s = .next t) :
    GatesSound t := by
  refine event_keeps hs h fun u => ?_
  split
  · split
    · exact automaticIssue_gates ..
    · rfl
  · rfl

theorem execAutomaticLift_sound (hs : GatesSound s) (path : Nat) (h : execAutomaticLift path s = .next t) :
    GatesSound t := by
  refine event_keeps hs h fun u => ?_
  split
  · rw [State.setPath_gates]
    split
    · rw [commit_gates, liftSlot_gates]
    · rfl
  all_goals rfl

theorem execBulletinTime_sound (hs : GatesSound s) (h : execBulletinTime s = .next t) : GatesSound t := by
  refine event_keeps hs h fun u => ?_
  split
  · split <;> rfl
  · rfl

theorem execPeriodBoundary_sound (hs : GatesSound s) (entry : Nat) (h : execPeriodBoundary entry s = .next t) :
    GatesSound t := by
  refine event_keeps hs h fun u => ?_
  split
  · split
    · split
      · rw [outOfPlay_gates, State.setPeer_gates]
      · rfl
    · rfl
  · rfl

theorem execLineCharacterReceived_sound (hs : GatesSound s) (ch : Byte) (framingError : Bool)
    (h : execLineCharacterReceived ch framingError s = .next t) : GatesSound t := by
  refine next_sound (gatesSound_of_eq hs ?_) h
  split
  · dsimp only
    split
    · exact endGap_gates s
    · exact (assemble_gates ..).trans (endGap_gates s)
    · exact (assemble_gates ..).trans (endGap_gates s)
  · rfl

theorem execLineBusy_sound (hs : GatesSound s) (h : execLineBusy s = .next t) : GatesSound t := by
  refine next_sound (gatesSound_of_eq hs ?_) h
  split
  · exact lineBusy_gates s
  · rfl

theorem execTransmitStart_sound (hs : GatesSound s) (h : execTransmitStart s = .next t) : GatesSound t := by
  refine event_keeps hs h fun u => ?_
  split
  · exact startSending_gates ..
  · rfl

theorem execTransmitCharacterEnd_sound (hs : GatesSound s) (h : execTransmitCharacterEnd s = .next t) :
    GatesSound t := by
  refine event_keeps hs h fun u => ?_
  split
  · split
    · split
      · exact sendOn_gates ..
      · exact collide_gates ..
    · rfl
  all_goals rfl

theorem execTerminalLevelChange_sound (hs : GatesSound s) (input : Nat) (active : Bool)
    (h : execTerminalLevelChange input active s = .next t) : GatesSound t := by
  refine next_sound ?_ h
  split
  · split
    · exact terminalChange_sound hs _ _ _
    · exact hs
  · exact hs

theorem execDebounceExpiry_sound (hs : GatesSound s) (input : Nat) (h : execDebounceExpiry input s = .next t) :
    GatesSound t := by
  refine event_sound hs h fun u hu => ?_
  split
  · split
    · exact takeChange_sound hu _ _
    · exact hu
  · exact hu

/-- Whatever command a station takes, its gates stay sound. -/
theorem exec_sound (hs : GatesSound s) (h : exec c s = .next t) : GatesSound t := by
  cases c <;> dsimp only [exec] at h
  case reset => exact next_sound (doReset_sound s) h
  case loadingEntry => exact execLoadingEntry_sound hs h
  case loadingEnd image => exact execLoadingEnd_sound hs _ h
  case settleEnd => exact execSettleEnd_sound hs h
  case noticeFrameTaken => exact event_keeps hs h takeNoticeFrame_gates
  case noticeExpiry => exact execNoticeExpiry_sound hs h
  case tombstonePurge => exact execTombstonePurge_sound hs h
  case refreshTick => exact execRefreshTick_sound hs h
  case catchUp => exact event_keeps hs h setCatchUp_gates
  case issue | amend | lift | post | clearPost | holdOpen | holdClosed | release | forceClose | clearFault | restart =>
    exact serve_sound hs h fun _ hu => takeBundle_sound hu _ _
  case order body => exact execOrder_sound hs _ h
  case status | unknownRequest => exact serveAlways_keeps hs h fun _ => rfl
  case readNoticeBySlot | readNoticeByKey | readSectionMapEntry | readPeerEntry | readLocalPath | readRemotePath
  | readRingRecord | readSensorRole | readPanel | readGate => exact serve_keeps hs h fun u => answer_gates u _
  case readDescriptor d => exact execReadDescriptor_sound hs _ h
  case readLatches | readCounters | clearCounters => exact serve_keeps hs h fun _ => rfl
  case clearLatches inputs faults => exact execClearLatches_sound hs _ _ h
  case servicePortCharacter ch framingError parityError => exact execServicePortCharacter_sound hs _ _ _ h
  case requestGapTimeout => exact execRequestGapTimeout_sound hs h
  case responseComplete => exact execResponseComplete_sound hs h
  case demandReevaluation g => exact event_sound hs h fun _ hu => reevaluate_sound hu
  case preWarningExpiry g => exact event_sound hs h fun _ hu => testLowering_sound hu
  case shownDurationReached g p => exact event_sound hs h fun _ hu => testLowering_sound hu
  case leadStateReport p => exact execLeadStateReport_sound hs _ h
  case motionLimitExpiry g => exact execMotionLimitExpiry_sound hs _ h
  case beamClearTimeExpiry g => exact execBeamClearTimeExpiry_sound hs _ h
  case flasherPhase g => exact execFlasherPhase_sound hs _ h
  case noticeClaim => exact event_keeps hs h fun u => changeStacks_gates u _
  case hazardClaim => exact event_keeps hs h fun u => changeStacks_gates u _
  case weatherRuleEvaluation => exact execWeatherRuleEvaluation_sound hs h
  case postEnd => exact execPostEnd_sound hs h
  case gateClaimRequest g ask => exact event_keeps hs h fun u => gateClaims_gates u g ask
  case gateAheadClaim sender => exact event_keeps hs h fun u => changeStacks_gates u _
  case fieldReformat p => exact event_keeps hs h fun u => reformat_gates u p
  case accessedMark d => exact event_keeps hs h fun _ => rfl
  case renderTrigger p lead => exact execRenderTrigger_sound hs _ _ h
  case renderComplete p => exact execRenderComplete_sound hs _ h
  case frameStart p => exact execFrameStart_sound hs _ h
  case flashPeriodExpiry p => exact execFlashPeriodExpiry_sound hs _ h
  case lampCheckSample p => exact execLampCheckSample_sound hs _ h
  case brightnessEvaluation p light => exact execBrightnessEvaluation_sound hs _ _ h
  case scanStart => exact execScanStart_sound hs h
  case scanComplete raws => exact execScanComplete_sound hs _ h
  case slidePulse => exact execSlidePulse_sound hs h
  case hourlyAppend => exact execHourlyAppend_sound hs h
  case hazardComputation => exact execHazardComputation_sound hs h
  case automaticIssue path => exact execAutomaticIssue_sound hs _ h
  case automaticLift path => exact execAutomaticLift_sound hs _ h
  case noticeChangeReport r => exact event_keeps hs h fun u => hearReport_gates u r
  case effectiveLevelRecompute => exact event_keeps hs h recomputeEffective_gates
  case bulletinTime => exact execBulletinTime_sound hs h
  case bulletinFrameTaken => exact event_keeps hs h takeBulletinFrame_gates
  case periodBoundary entry => exact execPeriodBoundary_sound hs _ h
  case lineCharacterReceived ch framingError => exact execLineCharacterReceived_sound hs _ _ h
  case lineBusy => exact execLineBusy_sound hs h
  case receiveGapTimeout => exact event_keeps hs h endGap_gates
  case transmitStart => exact execTransmitStart_sound hs h
  case transmitCharacterEnd => exact execTransmitCharacterEnd_sound hs h
  case terminalLevelChange input active => exact execTerminalLevelChange_sound hs _ _ h
  case debounceExpiry input => exact execDebounceExpiry_sound hs _ h
  case latchSetRequest latch => exact event_keeps hs h fun _ => rfl

/-- One microsecond leaves the gates. -/
theorem tick_gates (s : State) : s.tick.gates = s.gates := by
  have h := congrArg State.gates s.runClock_frame
  exact h

/-- Settles O55: every command keeps the gates sound, and so does the passing of time; sound gates have their drives apart. -/
theorem gatesKept : Obligations.GatesKept := by
  intro s t hs h
  have ht : GatesSound t := by
    cases hp : s.pending with
    | cons c rest =>
      rw [step_pending s c rest hp] at h
      have hu : GatesSound { s with pending := rest } := gatesSound_of_eq hs rfl
      exact exec_sound hu h
    | nil =>
      cases hm : s.told with
      | cons c rest =>
        rw [step_told s c rest hp hm] at h
        exact exec_sound hs h
      | nil =>
        rw [step_tick s hp hm] at h
        exact next_sound (gatesSound_of_eq hs (tick_gates s)) h
  exact ⟨ht, drivesApart_of_sound ht⟩

end
end Sys2Proof.Orders

/-! Chapter 2: the effective level and the judging of a bundle. -/
namespace Sys2Proof.Orders

open Machine Safety

/-! ## Conflicts (R35) -/

section
variable (a b : OrderAction)

theorem noticeOf_eq_some (k : NoticeKey) : noticeOf a = some k ↔ a.object = .notice k := by
  cases a with
  | clearFault object => by_cases h : 16 ≤ object <;> simp [noticeOf, OrderAction.object, faultObject, h]
  | _ => simp [noticeOf, OrderAction.object]

theorem panelOf_eq_some (p : Nat) : panelOf a = some p ↔ a.object = .panel p := by
  cases a with
  | clearFault object => by_cases h : 16 ≤ object <;> simp [panelOf, OrderAction.object, faultObject, h]
  | _ => simp [panelOf, OrderAction.object]

theorem gateOf_eq_some (g : Nat) : gateOf a = some g ↔ a.object = .gate g := by
  cases a with
  | clearFault object => by_cases h : 16 ≤ object <;> simp [gateOf, OrderAction.object, faultObject, h]
  | _ => simp [gateOf, OrderAction.object]

theorem eq_restart_iff : a = .restart ↔ a.object = .station := by
  cases a with
  | clearFault object => by_cases h : 16 ≤ object <;> simp [OrderAction.object, faultObject, h]
  | _ => simp [OrderAction.object]

theorem isIssue_eq : a.isIssue = isIssue a := by
  cases a with
  | clearFault object =>
    by_cases h : 16 ≤ object <;> simp [OrderAction.isIssue, isIssue, OrderAction.object, faultObject, h]
  | _ => simp [OrderAction.isIssue, isIssue, OrderAction.object]

/-- Two actions conflict where the objects they name do (R35). -/
theorem conflicts_iff : conflicts a b = true ↔ Conflict a b := by
  have both {α : Type} {f : α → OrderObject} : (∃ k, a.object = f k ∧ b.object = f k) ↔
      a.object = b.object ∧ ∃ k, a.object = f k := by
    constructor
    · rintro ⟨k, ha, hb⟩
      exact ⟨ha.trans hb.symm, k, ha⟩
    · rintro ⟨hab, k, ha⟩
      exact ⟨k, ha, hab ▸ ha⟩
  simp only [Conflict, noticeOf_eq_some, panelOf_eq_some, gateOf_eq_some, eq_restart_iff, conflicts, both]
  cases a.object <;> cases b.object <;> simp

end

/-! ## The key level and the room (R36, R179) -/

section
variable (s : State)

theorem keyLevel_eq : s.keyLevel =
    if (s.inputOf .keyBit0).any (fun x => x.timer.isSome) || (s.inputOf .keyBit1).any (fun x => x.timer.isSome) then 3
    else (if s.inputLevel .keyBit1 then 0 else 2) + (if s.inputLevel .keyBit0 then 0 else 1) := by
  unfold State.keyLevel State.debouncing
  split
  · rfl
  · cases s.inputLevel .keyBit1 <;> cases s.inputLevel .keyBit0 <;> rfl

/-- A key is named by a bundle where one of its actions names it (R36). -/
theorem mem_namedKeys_iff (acts : List OrderAction) (k : NoticeKey) :
    k ∈ namedKeys acts ↔ ∃ a ∈ acts, noticeOf a = some k := by
  simp only [namedKeys, List.mem_filterMap, noticeOf_eq_some]
  refine exists_congr fun a => and_congr_right fun _ => ?_
  cases a.object <;> simp

/-- The room of a bundle counts the slots that are free or could be freed (R36). -/
theorem room_eq (acts : List OrderAction) : s.room acts = roomFor s.engine.table acts := by
  have named : ∀ k, (namedKeys acts).contains k = acts.any fun a => noticeOf a = some k := by
    intro k
    rw [Bool.eq_iff_iff]
    simp [mem_namedKeys_iff]
  unfold State.room roomFor
  rw [List.countP_eq_length_filter]
  simp only [NoticeRecord.evictable, Notice.inForce, named]
  rfl

end

/-! ## The judging of a bundle (R33 to R36) -/

section
variable (s : State) (e : Nat) (all : List OrderAction)

/-- Action `i` of a bundle, where there is one, conflicts with no earlier one and passes its own checks. -/
def PassesAt (i : Nat) : Prop :=
  ∀ a, all[i]? = some a → ¬ConflictsBefore all i a ∧ checkOf s e all i a = none

/-- Action `i` of a bundle is `a`, and it is the one that refuses it, with a reason (R34, R35). -/
def RefusesAt (i : Nat) (a : OrderAction) (r : Reason) : Prop :=
  all[i]? = some a ∧ ((ConflictsBefore all i a ∧ r = .conflict) ∨
    (¬ConflictsBefore all i a ∧ checkOf s e all i a = some r))

/-- An action that refuses its bundle does not pass. -/
theorem not_passesAt_of_refusesAt {i : Nat} {a : OrderAction} {r : Reason} (h : RefusesAt s e all i a r) :
    ¬PassesAt s e all i := by
  obtain ⟨ha, hr⟩ := h
  intro hp
  obtain ⟨hno, hnone⟩ := hp a ha
  rcases hr with ⟨hc, -⟩ | ⟨-, hsome⟩
  · exact hno hc
  · cases hnone.symm.trans hsome

/-- One action refuses its bundle for one reason. -/
theorem refusesAt_unique {i : Nat} {a b : OrderAction} {r q : Reason} (h : RefusesAt s e all i a r)
    (k : RefusesAt s e all i b q) : r = q := by
  obtain ⟨ha, hr⟩ := h
  obtain ⟨hb, hq⟩ := k
  cases ha.symm.trans hb
  rcases hr with ⟨hc, rfl⟩ | ⟨hn, hr⟩ <;> rcases hq with ⟨hc', rfl⟩ | ⟨hn', hq⟩
  · rfl
  · exact absurd hc hn'
  · exact absurd hc' hn
  · exact Option.some.inj (hr.symm.trans hq)

/-- Whether the action behind some others conflicts with one of them. -/
theorem conflictsBefore_append (before rest : List OrderAction) (a : OrderAction) :
    ConflictsBefore (before ++ a :: rest) before.length a ↔ before.any (conflicts a) = true := by
  simp only [ConflictsBefore, List.any_eq_true, conflicts_iff]
  constructor
  · rintro ⟨j, hj, b, hb, hc⟩
    rw [List.getElem?_append_left hj] at hb
    exact ⟨b, List.mem_of_getElem? hb, hc⟩
  · rintro ⟨b, hb, hc⟩
    obtain ⟨j, hj, hget⟩ := List.mem_iff_getElem.mp hb
    exact ⟨j, hj, b, by rw [List.getElem?_append_left hj, List.getElem?_eq_getElem hj, hget], hc⟩

/-- The own checks of the action behind some others. -/
theorem checkOf_append (before rest : List OrderAction) (a : OrderAction) :
    checkOf s e (before ++ a :: rest) before.length a =
      s.checkAction e (s.room (before ++ a :: rest)) ((before ++ [a]).countP OrderAction.isIssue) a := by
  have htake : (before ++ a :: rest).take (before.length + 1) = before ++ [a] := by
    simp [List.take_append]
  have hissue : OrderAction.isIssue = isIssue := funext isIssue_eq
  rw [checkOf, room_eq, htake, hissue]

/-- What the judging of the actions behind some others finds: the first that refuses the bundle, or that they all pass. -/
theorem judgeActions_spec (before rest : List OrderAction) (hall : all = before ++ rest) :
    (s.judgeActions e (s.room all) before rest = none ∧ ∀ i, before.length ≤ i → PassesAt s e all i) ∨
    ∃ i a r, s.judgeActions e (s.room all) before rest = some (i + 1, r) ∧
      (∀ j, before.length ≤ j → j < i → PassesAt s e all j) ∧ RefusesAt s e all i a r := by
  induction rest generalizing before with
  | nil =>
    refine .inl ⟨rfl, fun i hi a ha => ?_⟩
    simp [hall, List.getElem?_eq_none hi] at ha
  | cons a rest ih =>
    have hget : all[before.length]? = some a := by simp [hall]
    have hconf := conflictsBefore_append before rest a
    have hcheck := checkOf_append s e before rest a
    rw [← hall] at hconf hcheck
    unfold State.judgeActions
    dsimp only
    by_cases hc : before.any (conflicts a) = true
    · refine .inr ⟨before.length, a, .conflict, by simp [hc], fun j hj hlt => absurd hj (by omega), hget, ?_⟩
      exact .inl ⟨hconf.mpr hc, rfl⟩
    · rw [if_neg hc, ← hcheck]
      have hno : ¬ConflictsBefore all before.length a := fun h => hc (hconf.mp h)
      cases hr : checkOf s e all before.length a with
      | some r =>
        exact .inr ⟨before.length, a, r, rfl, fun j hj hlt => absurd hj (by omega), hget, .inr ⟨hno, hr⟩⟩
      | none =>
        have hpass : PassesAt s e all before.length := by
          intro b hb
          cases hget.symm.trans hb
          exact ⟨hno, hr⟩
        have hfrom : ∀ j, before.length ≤ j → j = before.length ∨ (before ++ [a]).length ≤ j := by
          intro j hj
          simp only [List.length_append, List.length_singleton]
          omega
        dsimp only
        rcases ih (before ++ [a]) (by simp [hall]) with ⟨hnone, hlater⟩ | ⟨i, b, r, hsome, hlater, hrefuse⟩
        · refine .inl ⟨hnone, fun j hj => ?_⟩
          rcases hfrom j hj with rfl | hj
          · exact hpass
          · exact hlater j hj
        · refine .inr ⟨i, b, r, hsome, fun j hj hlt => ?_, hrefuse⟩
          rcases hfrom j hj with rfl | hj
          · exact hpass
          · exact hlater j hj hlt

/-- A bundle is judged by its actions where its level and length are in range and the effective level is an order's (R33). -/
theorem judge_eq_judgeActions (requested : Nat) (hr : requested ≤ 3) (h1 : 1 ≤ all.length) (h3 : all.length ≤ 3)
    (he : max s.keyLevel requested ≤ 2) :
    s.judge requested all = s.judgeActions (max s.keyLevel requested) (s.room all) [] all := by
  have hne : all ≠ [] := List.ne_nil_of_length_pos h1
  unfold State.judge State.effective
  rw [if_neg (by omega), if_neg (by simp [hne]; omega), if_neg (by omega)]

/-- Settles O16: the actions of a bundle are judged by `judgeActions_spec`, and what it finds excludes every other outcome. -/
theorem effectiveLevelOfBundle : Obligations.EffectiveLevelOfBundle := by
  intro s requested acts
  refine ⟨keyLevel_eq s, rfl, fun h => ?_, fun hr hl => ?_, fun hr h1 h3 he => ?_, fun hr h1 h3 he => ?_⟩
  · simp [State.judge, h]
  · unfold State.judge
    rw [if_neg (by omega), if_pos (hl.imp_left List.eq_nil_of_length_eq_zero)]
  · have hne : acts ≠ [] := List.ne_nil_of_length_pos h1
    unfold State.judge State.effective
    rw [if_neg (by omega), if_neg (by simp [hne]; omega), if_pos he]
  · refine ⟨fun i => ∀ j < i, PassesAt s (max s.keyLevel requested) acts j, fun i => Iff.rfl, ?_, fun n r => ?_⟩
    all_goals rw [judge_eq_judgeActions s acts requested hr h1 h3 he]
    all_goals
      rcases judgeActions_spec s (max s.keyLevel requested) acts [] acts rfl with
        ⟨hnone, hpass⟩ | ⟨i, a, q, hsome, hpass, hrefuse⟩
    · rw [hnone]
      exact ⟨fun _ j _ => hpass j (Nat.zero_le j), fun _ => rfl⟩
    · rw [hsome]
      refine ⟨nofun, fun hall => ?_⟩
      obtain ⟨hlt, -⟩ := List.getElem?_eq_some_iff.mp hrefuse.1
      exact absurd (hall i hlt) (not_passesAt_of_refusesAt _ _ _ hrefuse)
    · rw [hnone]
      refine ⟨nofun, fun ⟨i, a, _, ha, _, hr⟩ => ?_⟩
      exact absurd (hpass i (Nat.zero_le i)) (not_passesAt_of_refusesAt _ _ _ ⟨ha, hr⟩)
    · rw [hsome]
      constructor
      · rintro ⟨⟩
        exact ⟨i, a, rfl, hrefuse.1, fun j hj => hpass j (Nat.zero_le j) hj, hrefuse.2⟩
      · rintro ⟨i', b, rfl, hb, hpass', hr'⟩
        have hrefuse' : RefusesAt s (max s.keyLevel requested) acts i' b r := ⟨hb, hr'⟩
        rcases Nat.lt_trichotomy i i' with hlt | rfl | hlt
        · exact absurd (hpass' i hlt) (not_passesAt_of_refusesAt _ _ _ hrefuse)
        · rw [refusesAt_unique _ _ _ hrefuse hrefuse']
        · exact absurd (hpass i' (Nat.zero_le i') hlt) (not_passesAt_of_refusesAt _ _ _ hrefuse')

end
end Sys2Proof.Orders

/-! Chapter 2 and 13.2: the ORDER body. -/
namespace Sys2Proof.Orders

open Machine Safety

/-! ## Reading an action (13.2) -/

/-- A byte with a known number. -/
theorem byte_of_toNat {b : Byte} {n : Nat} (h : b.toNat = n) : b = BitVec.ofNat 8 n := by
  rw [← h]
  simp

theorem orderMessage_eq (m : Byte) : orderMessage m = if m.toNat = 255 then none else some m.toNat := by
  unfold orderMessage unoptByte
  refine if_congr ⟨fun h => by rw [h]; rfl, byte_of_toNat⟩ rfl rfl

/-- What the characters of an action spell is read from the front of a body, and nothing behind them. -/
theorem readAction_spelled (piece rest : List Byte) (a : OrderAction) (h : actionOf (piece.map BitVec.toNat) = some a) :
    readAction (piece ++ rest) = .read a rest := by
  unfold actionOf at h
  split at h
  case h_12 => cases h
  all_goals
    rename_i hp
    simp only [List.map_eq_cons_iff, List.map_eq_nil_iff] at hp
  case h_1 =>
    obtain ⟨c, _, rfl, hc, k, _, rfl, rfl, w, _, rfl, rfl, f, _, rfl, rfl, l, _, rfl, rfl, u, _, rfl, rfl, v, _, rfl, rfl,
      m, _, rfl, rfl, rfl⟩ := hp
    cases byte_of_toNat hc
    rw [← Option.some.inj h, ← orderMessage_eq]
    rfl
  case h_2 =>
    obtain ⟨c, _, rfl, hc, o, _, rfl, rfl, n, _, rfl, rfl, k, _, rfl, rfl, f, _, rfl, rfl, l, _, rfl, rfl, u, _, rfl, rfl,
      v, _, rfl, rfl, m, _, rfl, rfl, rfl⟩ := hp
    cases byte_of_toNat hc
    rw [← Option.some.inj h, ← orderMessage_eq]
    rfl
  case h_3 =>
    obtain ⟨c, _, rfl, hc, o, _, rfl, rfl, n, _, rfl, rfl, rfl⟩ := hp
    cases byte_of_toNat hc
    cases h
    rfl
  case h_4 =>
    obtain ⟨c, _, rfl, hc, p, _, rfl, rfl, d, _, rfl, rfl, q, _, rfl, rfl, u, _, rfl, rfl, v, _, rfl, rfl, rfl⟩ := hp
    cases byte_of_toNat hc
    cases h
    rfl
  case h_5 | h_6 | h_7 | h_8 | h_9 | h_10 =>
    obtain ⟨c, _, rfl, hc, x, _, rfl, rfl, rfl⟩ := hp
    cases byte_of_toNat hc
    cases h
    rfl
  case h_11 =>
    obtain ⟨c, _, rfl, hc, rfl⟩ := hp
    cases byte_of_toNat hc
    cases h
    rfl

/-- A code that names no action is unknown. -/
theorem readAction_unknown (code : Byte) (fields : List Byte) (h : fieldCount code = none) :
    readAction (code :: fields) = .unknownCode := by
  unfold readAction
  split
  case h_13 => rfl
  all_goals simp_all [fieldCount]

/-- An action whose fields end early is short. -/
theorem readAction_short (code : Byte) (fields : List Byte) (n : Nat) (h : fieldCount code = some n)
    (hlt : fields.length < n) : readAction (code :: fields) = .short := by
  unfold readAction
  split
  case h_1 => rfl
  case h_12 =>
    cases ‹_ = _ :: _›
    cases h
    exact absurd hlt (Nat.not_lt_zero _)
  case h_13 =>
    cases ‹_ = _ :: _›
    simp only [imp_false] at *
    unfold fieldCount at h
    split_ifs at h <;> bv_omega
  all_goals
    cases ‹_ = _ :: _›
    cases h
    split
    · exact absurd hlt (by simp only [List.length_cons]; omega)
    · rfl

/-! ## Reading a body (13.2) -/

theorem spells_nil (xs : List Byte) : Spells xs [] ↔ xs = [] := by
  simp [Spells]

/-- The characters of some actions are those of the first and then those of the others. -/
theorem spells_cons (xs : List Byte) (a : OrderAction) (acts : List OrderAction) (h : Spells xs (a :: acts)) :
    ∃ piece ys, xs = piece ++ ys ∧ actionOf (piece.map BitVec.toNat) = some a ∧ Spells ys acts := by
  obtain ⟨pieces, rfl, h⟩ := h
  cases pieces with
  | nil => cases h
  | cons piece pieces =>
    simp only [List.map_cons, List.cons.injEq] at h
    exact ⟨piece, pieces.flatten, rfl, h.1, pieces, rfl, h.2⟩

theorem readActions_read {a : OrderAction} {xs rest : List Byte} (left i : Nat) (h : readAction xs = .read a rest) :
    readActions (left + 1) i xs = (readActions left (i + 1) rest).map (a :: ·) := by
  rw [readActions, h]
  dsimp only
  cases readActions left (i + 1) rest <;> rfl

theorem readActions_short {xs : List Byte} (left i : Nat) (h : readAction xs = .short) :
    readActions (left + 1) i xs = .error 0 := by
  rw [readActions, h]

theorem readActions_unknown {xs : List Byte} (left i : Nat) (h : readAction xs = .unknownCode) :
    readActions (left + 1) i xs = .error i := by
  rw [readActions, h]

/-- Reading some spelled actions goes on behind them with those that are left. -/
theorem readActions_spelled (acts : List OrderAction) (left i : Nat) (xs rest : List Byte) (h : Spells xs acts) :
    readActions (acts.length + left) i (xs ++ rest) = (readActions left (i + acts.length) rest).map (acts ++ ·) := by
  induction acts generalizing i xs with
  | nil =>
    rw [(spells_nil xs).mp h, List.length_nil, Nat.zero_add, Nat.add_zero, List.nil_append]
    cases readActions left i rest <;> rfl
  | cons a acts ih =>
    obtain ⟨piece, ys, rfl, ha, hys⟩ := spells_cons xs a acts h
    have hread : readAction (piece ++ (ys ++ rest)) = .read a (ys ++ rest) := readAction_spelled piece _ a ha
    rw [List.length_cons, Nat.add_right_comm, List.append_assoc, readActions_read _ _ hread, ih (i + 1) ys hys,
      Nat.add_right_comm i 1, Nat.add_assoc i]
    cases readActions left (i + (acts.length + 1)) rest <;> rfl

/-- A body reads its actions, and then what is left to read behind them. -/
theorem decodeOrder_spelled (level count : Byte) (xs rest : List Byte) (acts : List OrderAction) (left : Nat)
    (h : Spells xs acts) (hcount : count.toNat = acts.length + left) :
    decodeOrder (level :: count :: xs ++ rest) =
      (readActions left (acts.length + 1) rest).map fun more => (level.toNat, acts ++ more) := by
  simp only [decodeOrder, List.cons_append, hcount, readActions_spelled acts left 1 xs rest h, Nat.add_comm 1]
  cases readActions left (acts.length + 1) rest <;> rfl

end Sys2Proof.Orders

/-! Chapter 2: the checks of each action, and refused bundles. -/
namespace Sys2Proof.Orders

open Machine Safety

/-! ## The first failing check (R34) -/

/-- A check that fails where a condition holds gives its reason there, and otherwise the checks go on behind it. -/
theorem firstFailing_cons {ok : Bool} {P : Prop} [Decidable P] (h : ok = true ↔ ¬P) (r : Reason)
    (rest : List (Bool × Reason)) :
    firstFailing ((ok, r) :: rest) = if P then some r else firstFailing rest := by
  by_cases hp : P <;> simp [firstFailing, hp, h]

theorem firstFailing_nil : firstFailing [] = none := rfl

theorem kindOf_isSome_iff (n : Nat) : (kindOf n).isSome = true ↔ n ≤ 4 := by
  rcases n with _ | _ | _ | _ | _ | n <;> simp [kindOf]

theorem causeOf_isSome_iff (n : Nat) : (causeOf n).isSome = true ↔ n ≤ 4 := by
  rcases n with _ | _ | _ | _ | _ | n <;> simp [causeOf]

/-- What may be absent passes a check where it does not fail it. -/
theorem all_iff_not_any {α : Type} (x : Option α) {p q : α → Bool} (h : ∀ a, p a = true ↔ ¬q a = true) :
    x.all p = true ↔ ¬x.any q = true := by
  cases x with
  | none => simp
  | some a => simpa using h a

/-- A number that may be absent is at least `e` where it is not below it. -/
theorem all_le_iff_not_any_lt {α : Type} (x : Option α) (f : α → Nat) (e : Nat) :
    x.all (fun a => decide (e ≤ f a)) = true ↔ ¬x.any (fun a => decide (f a < e)) = true :=
  all_iff_not_any x fun a => by simp

/-! ## The checks of each action (R39 to R47) -/

section
variable (s : State) (e : Nat)

theorem noticeFieldsGood_iff (kind first last remaining : Nat) (message : Option Nat) :
    noticeFieldsGood kind first last remaining message = true ↔
      ¬(4 < kind ∨ 31 < first ∨ 31 < last ∨ last < first ∨ 10080 < remaining ∨
        message.any (fun d => decide (31 < d)) = true) := by
  have hm : message.all (fun d => decide (d ≤ 31)) = true ↔ ¬message.any (fun d => decide (31 < d)) = true :=
    all_iff_not_any message fun d => by simp
  simp only [noticeFieldsGood, Bool.and_eq_true, decide_eq_true_eq, kindOf_isSome_iff, hm, not_or, not_lt, and_assoc]

theorem messagePresent_iff (message : Option Nat) :
    s.messagePresent message = true ↔ ¬message.any (fun d => !(s.descriptor d).present) = true :=
  all_iff_not_any message fun d => by simp

theorem messageLevel_iff (message : Option Nat) :
    s.messageLevel e message = true ↔ ¬message.any (fun d => decide ((s.descriptor d).cfg.postLevel < e)) = true :=
  all_le_iff_not_any_lt message _ e

theorem keyInRange_iff (origin number : Nat) :
    keyInRange ⟨origin, number⟩ = true ↔ ¬(origin < 1 ∨ 60 < origin ∨ 255 < number) := by
  simp only [keyInRange, Bool.and_eq_true, decide_eq_true_eq]
  omega

/-- ISSUE (R39). -/
theorem checkIssue_eq (room k kind cause first last remaining : Nat) (message : Option Nat) :
    s.checkIssue e room k kind cause first last remaining message =
      if s.settling = true then some .settling
      else if 4 < kind ∨ 4 < cause ∨ 31 < first ∨ 31 < last ∨ last < first ∨ 10080 < remaining ∨
        message.any (fun d => decide (31 < d)) = true then some .badField
      else if message.any (fun d => !(s.descriptor d).present) = true then some .notPresent
      else if message.any (fun d => decide ((s.descriptor d).cfg.postLevel < e)) = true then some .level
      else if room < k then some .tableFull
      else none := by
  have hfields : (noticeFieldsGood kind first last remaining message && (causeOf cause).isSome) = true ↔
      ¬(4 < kind ∨ 4 < cause ∨ 31 < first ∨ 31 < last ∨ last < first ∨ 10080 < remaining ∨
        message.any (fun d => decide (31 < d)) = true) := by
    rw [Bool.and_eq_true, noticeFieldsGood_iff, causeOf_isSome_iff, ← not_lt, ← not_or]
    tauto
  unfold State.checkIssue
  rw [firstFailing_cons (P := s.settling = true) (by simp), firstFailing_cons hfields,
    firstFailing_cons (messagePresent_iff s message), firstFailing_cons (messageLevel_iff s e message),
    firstFailing_cons (P := room < k) (by simp), firstFailing_nil]

/-- The held record of a key is the first of the table with that key (R40, R41). -/
theorem recordOf_eq (k : NoticeKey) :
    s.recordOf k = (s.engine.table.filterMap id).find? fun r => r.notice.key = k := by
  unfold State.recordOf slotOf recordAt
  induction s.engine.table with
  | nil => rfl
  | cons x xs ih =>
    cases x with
    | none =>
      rw [List.filterMap_cons_none rfl, ← ih, List.findIdx?_cons]
      simp [Option.bind_map]
    | some r =>
      rw [List.filterMap_cons_some (f := id) (b := r) rfl, List.find?_cons, ← ih, List.findIdx?_cons]
      by_cases hr : r.notice.key = k <;> simp [hr, Option.bind_map]

/-- A LIFT or an AMEND of a key whose record is not held (R40, R41). -/
theorem checkHeld_missing (origin number : Nat) (more : List (Bool × Reason)) (h : s.recordOf ⟨origin, number⟩ = none) :
    firstFailing (s.checkHeld e ⟨origin, number⟩ ++ more) =
      if origin < 1 ∨ 60 < origin ∨ 255 < number then some .badField else some .notFound := by
  unfold State.checkHeld
  rw [List.cons_append, firstFailing_cons (keyInRange_iff origin number), h]
  rfl

/-- The checks that AMEND and LIFT share for a held record, and what comes behind them (R40, R41). -/
theorem checkHeld_held (origin number : Nat) (more : List (Bool × Reason)) (r : NoticeRecord)
    (h : s.recordOf ⟨origin, number⟩ = some r) :
    firstFailing (s.checkHeld e ⟨origin, number⟩ ++ more) =
      if origin < 1 ∨ 60 < origin ∨ 255 < number then some .badField
      else if r.notice.state ≠ .inForce then some .notInForce
      else if r.notice.level < e then some .level
      else firstFailing more := by
  unfold State.checkHeld
  simp only [List.cons_append, List.nil_append]
  rw [firstFailing_cons (keyInRange_iff origin number), firstFailing_cons (P := False) (by simp [h]),
    firstFailing_cons (P := r.notice.state ≠ .inForce) (by simp [h, Notice.inForce]),
    firstFailing_cons (P := r.notice.level < e) (by simp [h])]
  simp only [if_false]

/-- What AMEND checks behind the checks it shares with LIFT (R40). -/
theorem checkAmend_held (origin number kind first last remaining : Nat) (message : Option Nat) (r : NoticeRecord)
    (h : s.recordOf ⟨origin, number⟩ = some r) :
    s.checkAmend e ⟨origin, number⟩ kind first last remaining message =
      if origin < 1 ∨ 60 < origin ∨ 255 < number then some .badField
      else if r.notice.state ≠ .inForce then some .notInForce
      else if r.notice.level < e then some .level
      else if 13 < r.notice.version then some .versionLimit
      else if 4 < kind ∨ 31 < first ∨ 31 < last ∨ last < first ∨ 10080 < remaining ∨
        message.any (fun d => decide (31 < d)) = true then some .badField
      else if message.any (fun d => !(s.descriptor d).present) = true then some .notPresent
      else if message.any (fun d => decide ((s.descriptor d).cfg.postLevel < e)) = true then some .level
      else none := by
  unfold State.checkAmend
  rw [checkHeld_held s e origin number _ r h, firstFailing_cons (P := 13 < r.notice.version) (by simp [h]),
    firstFailing_cons (noticeFieldsGood_iff kind first last remaining message),
    firstFailing_cons (messagePresent_iff s message), firstFailing_cons (messageLevel_iff s e message), firstFailing_nil]

/-- A panel's post is the first OPERATOR claim of its stack. -/
theorem postOf_eq (p : Panel) : s.postOf p = (s.displays.get p).claims.find? fun c => c.id = .operator := rfl

/-- The effective level is weaker than that of a panel's post (R42, R43). -/
theorem postLevel_iff (panel : Nat) (p : Panel) (hp : Panel.ofCode panel = some p) :
    s.postLevel e panel = true ↔
      ¬(s.postOf p).any (fun c => c.level.any fun l => decide (l < e)) = true := by
  simp only [State.postLevel, hp, Option.bind_some]
  exact all_iff_not_any _ fun c => all_le_iff_not_any_lt c.level _ e

theorem panelFitted_iff (panel : Nat) (p : Panel) (hp : Panel.ofCode panel = some p) :
    s.panelFitted panel = true ↔ ¬(s.cfg.panels.get p).isNone = true := by
  simp [State.panelFitted, hp, Option.isSome_iff_ne_none]

theorem gateFitted_iff (gate : Nat) (g : GateId) (hg : GateId.ofCode gate = some g) :
    s.gateFitted gate = true ↔ ¬(s.cfg.gates.get g).isNone = true := by
  simp [State.gateFitted, hg, Option.isSome_iff_ne_none]

/-- POST on a panel (R42). -/
theorem checkPost_eq (panel descriptor priority duration : Nat) (p : Panel) (hp : Panel.ofCode panel = some p) :
    s.checkPost e panel descriptor priority duration =
      if 63 < descriptor ∨ 15 < priority ∨ 1440 < duration then some .badField
      else if (s.cfg.panels.get p).isNone = true then some .notFitted
      else if (s.descriptor descriptor).present = false then some .notPresent
      else if (s.descriptor descriptor).cfg.mask.get p = false then some .notAllowed
      else if (s.descriptor descriptor).cfg.postLevel < e then some .level
      else if (if e = 0 then 15 else if e = 1 then 13 else 11) < priority then some .priority
      else if (s.postOf p).any (fun c => c.level.any fun l => decide (l < e)) = true then some .level
      else none := by
  have hcap : priorityCap e = if e = 0 then 15 else if e = 1 then 13 else 11 := by
    rcases e with _ | _ | e <;> rfl
  unfold State.checkPost
  rw [firstFailing_cons (P := 63 < descriptor ∨ 15 < priority ∨ 1440 < duration) (by simp [hp]; omega),
    firstFailing_cons (panelFitted_iff s panel p hp),
    firstFailing_cons (P := (s.descriptor descriptor).present = false) (by simp),
    firstFailing_cons (P := (s.descriptor descriptor).cfg.mask.get p = false) (by simp [hp]),
    firstFailing_cons (P := (s.descriptor descriptor).cfg.postLevel < e) (by simp),
    firstFailing_cons (P := priorityCap e < priority) (by simp),
    firstFailing_cons (postLevel_iff s e panel p hp), firstFailing_nil, hcap]

/-- CLEAR_POST on a panel (R43). -/
theorem checkClearPost_eq (panel : Nat) (p : Panel) (hp : Panel.ofCode panel = some p) :
    s.checkClearPost e panel =
      if (s.cfg.panels.get p).isNone = true then some .notFitted
      else if s.postOf p = none then some .notFound
      else if (s.postOf p).any (fun c => c.level.any fun l => decide (l < e)) = true then some .level
      else none := by
  unfold State.checkClearPost
  rw [firstFailing_cons (P := False) (by simp [hp]), firstFailing_cons (panelFitted_iff s panel p hp),
    firstFailing_cons (P := s.postOf p = none) (by simp [hp, Option.isSome_iff_ne_none]),
    firstFailing_cons (postLevel_iff s e panel p hp), firstFailing_nil, if_neg not_false]

/-- HOLD_OPEN, HOLD_CLOSED and RELEASE on a gate (R44). -/
theorem checkMode_eq (weakest gate : Nat) (g : GateId) (hg : GateId.ofCode gate = some g) :
    s.checkMode e weakest gate =
      if (s.cfg.gates.get g).isNone = true then some .notFitted
      else if weakest < e then some .level
      else if (s.gates.get g).mode ≠ .auto ∧ (s.gates.get g).holdLevel.any (fun l => decide (l < e)) = true then
        some .level
      else none := by
  have hhold : s.holdLevelOk e gate = true ↔
      ¬((s.gates.get g).mode ≠ .auto ∧ (s.gates.get g).holdLevel.any (fun l => decide (l < e)) = true) := by
    have hl : (s.gates.get g).holdLevel.all (fun l => decide (e ≤ l)) = true ↔
        ¬(s.gates.get g).holdLevel.any (fun l => decide (l < e)) = true := all_le_iff_not_any_lt _ (fun l => l) e
    simp only [State.holdLevelOk, hg, Option.all_some, Bool.or_eq_true, beq_iff_eq, hl]
    tauto
  unfold State.checkMode
  rw [firstFailing_cons (P := False) (by simp [hg]), firstFailing_cons (gateFitted_iff s gate g hg),
    firstFailing_cons (P := weakest < e) (by simp), firstFailing_cons hhold, firstFailing_nil, if_neg not_false]

/-- FORCE_CLOSE on a gate (R45). -/
theorem checkForceClose_eq (gate : Nat) (g : GateId) (hg : GateId.ofCode gate = some g) :
    s.checkForceClose e gate =
      if (s.cfg.gates.get g).isNone = true then some .notFitted else if e ≠ 0 then some .level else none := by
  unfold State.checkForceClose
  rw [firstFailing_cons (P := False) (by simp [hg]), firstFailing_cons (gateFitted_iff s gate g hg),
    firstFailing_cons (P := e ≠ 0) (by simp), firstFailing_nil, if_neg not_false]

/-- CLEAR_FAULT of a panel (R46). -/
theorem checkClearFault_panel (code : Nat) (p : Panel) (hp : Panel.ofCode code = some p) :
    s.checkClearFault (.panel code) =
      if (s.cfg.panels.get p).isNone = true then some .notFitted
      else if (s.panels.get p).state ≠ .fault then some .notFaulted
      else none := by
  unfold State.checkClearFault
  dsimp only
  rw [firstFailing_cons (P := False) (by simp [hp]), firstFailing_cons (panelFitted_iff s code p hp),
    firstFailing_cons (P := (s.panels.get p).state ≠ .fault) (by simp [hp]), firstFailing_nil, if_neg not_false]

/-- CLEAR_FAULT of a gate (R46). -/
theorem checkClearFault_gate (code : Nat) (g : GateId) (hg : GateId.ofCode code = some g) :
    s.checkClearFault (.gate code) =
      if (s.cfg.gates.get g).isNone = true then some .notFitted
      else if (s.gates.get g).state ≠ .fault then some .notFaulted
      else none := by
  unfold State.checkClearFault
  dsimp only
  rw [firstFailing_cons (P := False) (by simp [hg]), firstFailing_cons (gateFitted_iff s code g hg),
    firstFailing_cons (P := (s.gates.get g).state ≠ .fault) (by simp [hg]), firstFailing_nil, if_neg not_false]

/-- RESTART (R47). -/
theorem checkRestart_eq (room k : Nat) :
    s.checkAction e room k .restart = if e ≠ 0 then some .level else none := by
  unfold State.checkAction
  rw [firstFailing_cons (P := e ≠ 0) (by simp), firstFailing_nil]

end

/-! ## A refused bundle (R33, R34, R37) -/

section
variable {s : State} {c : Instr} {f : State → State}

/-- A request that the station serves is handled. -/
theorem serve_of_serves (h : Serves s c) : s.serve c f = .next (f (s.take c)) :=
  s.serve_running c f (by simp [State.running, h.1]) h.2

/-- No check reads the messages. -/
theorem checkAction_take (e room k : Nat) (a : OrderAction) :
    (s.take c).checkAction e room k a = s.checkAction e room k a := by
  cases a <;> rfl

theorem judgeActions_take (e room : Nat) (before rest : List OrderAction) :
    (s.take c).judgeActions e room before rest = s.judgeActions e room before rest := by
  induction rest generalizing before with
  | nil => rfl
  | cons a rest ih => simp only [State.judgeActions, checkAction_take, ih]

/-- A bundle is judged as if its request still waited. -/
theorem judge_take (requested : Nat) (acts : List OrderAction) :
    (s.take c).judge requested acts = s.judge requested acts := by
  have hr : (s.take c).room acts = s.room acts := rfl
  have he : (s.take c).effective requested = s.effective requested := rfl
  simp only [State.judge, judgeActions_take, hr, he]

theorem exec_order_eq (body : List Byte) (s : State) : exec (.order body) s = execOrder body s := rfl

/-- An ORDER whose body does not decode. -/
theorem exec_order_undecoded (body : List Byte) (i : Nat) (h : Serves s (.order body)) (hd : decodeOrder body = .error i) :
    exec (.order body) s = .next ((s.take (.order body)).respond .refused [byte i, 2#8]) := by
  rw [exec_order_eq, execOrder, serve_of_serves h, hd]
  rfl

/-- An ORDER whose bundle fails a check. -/
theorem exec_order_refused (body : List Byte) (requested : Nat) (acts : List OrderAction) (i : Nat) (r : Reason)
    (h : Serves s (.order body)) (hd : decodeOrder body = .ok (requested, acts))
    (hj : s.judge requested acts = some (i, r)) :
    exec (.order body) s = .next ((s.take (.order body)).respond .refused [byte i, byte r.code]) := by
  rw [exec_order_eq, execOrder, serve_of_serves h, hd]
  exact congrArg Host.Outcome.next
    (State.takeBundle_refused (s.take (.order body)) requested acts i r ((judge_take requested acts).trans hj))

end

/-- Settles O17: `decodeOrder_spelled` for the body, the lemma of each action's checks for the reasons. -/
theorem refusedBundleChangesNothing : Obligations.RefusedBundleChangesNothing := by
  refine ⟨fun s body h => ⟨fun i => exec_order_undecoded body i h,
    fun requested acts i r => exec_order_refused body requested acts i r h⟩, ⟨rfl, fun _ => rfl⟩,
    fun level count xs rest acts hspell => ?_, fun s e room k => ?_⟩
  · have hdecode : ∀ left, count.toNat = acts.length + left → _ := fun left =>
      decodeOrder_spelled level count xs rest acts left hspell
    have hmore : acts.length < count.toNat → ∃ left, count.toNat = acts.length + (left + 1) := fun hlt =>
      ⟨count.toNat - acts.length - 1, by omega⟩
    refine ⟨fun hlen hrest => ?_, fun hlen hrest => ?_, fun hlt hrest => ?_, fun code fields hlt hrest => ⟨fun hcode => ?_,
      fun n hcode hshort => ?_⟩⟩
    · rw [hdecode 0 hlen.symm, hrest]
      simp [readActions, Except.map]
    · obtain ⟨x, ys, rfl⟩ := List.exists_cons_of_ne_nil hrest
      rw [hdecode 0 hlen.symm]
      rfl
    · obtain ⟨left, hleft⟩ := hmore hlt
      rw [hdecode _ hleft, hrest, readActions_short left _ rfl]
      rfl
    · obtain ⟨left, hleft⟩ := hmore hlt
      rw [hdecode _ hleft, hrest, readActions_unknown left _ (readAction_unknown code fields hcode)]
      rfl
    · obtain ⟨left, hleft⟩ := hmore hlt
      rw [hdecode _ hleft, hrest, readActions_short left _ (readAction_short code fields n hcode hshort)]
      rfl
  · refine ⟨fun kind cause first last remaining message => ?_, fun origin number kind first last remaining message => ?_,
      fun origin number => ?_, fun panel descriptor priority duration => ?_, fun panel => ?_, fun a gate weakest ha => ?_,
      fun gate => ?_, fun object => ?_, ?_⟩
    · exact checkIssue_eq ..
    · show s.checkAmend e ⟨origin, number⟩ kind first last remaining message = _
      rw [← recordOf_eq]
      cases hr : s.recordOf ⟨origin, number⟩ with
      | none => exact checkHeld_missing s e origin number _ hr
      | some r => exact checkAmend_held s e origin number kind first last remaining message r hr
    · show s.checkLift e ⟨origin, number⟩ = _
      unfold State.checkLift
      rw [← recordOf_eq, ← List.append_nil (s.checkHeld _ _)]
      cases hr : s.recordOf ⟨origin, number⟩ with
      | none => exact checkHeld_missing s e origin number [] hr
      | some r => exact checkHeld_held s e origin number [] r hr
    · show s.checkPost e panel descriptor priority duration = _
      cases hp : Panel.ofCode panel with
      | none => simp [State.checkPost, firstFailing, hp]
      | some p =>
        rw [checkPost_eq s e panel descriptor priority duration p hp, postOf_eq]
        dsimp only
        cases (s.displays.get p).claims.find? fun c => c.id = .operator <;> rfl
    · show s.checkClearPost e panel = _
      cases hp : Panel.ofCode panel with
      | none => simp [State.checkClearPost, firstFailing, hp]
      | some p =>
        rw [checkClearPost_eq s e panel p hp, postOf_eq]
        dsimp only
        cases (s.displays.get p).claims.find? fun c => c.id = .operator <;> rfl
    · have hmode : s.checkAction e room k a = s.checkMode e weakest gate := by
        rcases ha with ⟨rfl, rfl⟩ | ⟨rfl, rfl⟩ | ⟨rfl, rfl⟩ <;> rfl
      rw [hmode]
      cases hg : GateId.ofCode gate with
      | none => simp [State.checkMode, firstFailing, hg]
      | some g => exact checkMode_eq s e weakest gate g hg
    · show s.checkForceClose e gate = _
      cases hg : GateId.ofCode gate with
      | none => simp [State.checkForceClose, firstFailing, hg]
      | some g => exact checkForceClose_eq s e gate g hg
    · show s.checkClearFault (faultObject object) = _
      by_cases ho : object < 16
      · rw [if_pos ho, faultObject, if_neg (by omega)]
        cases hg : GateId.ofCode object with
        | none => simp [State.checkClearFault, firstFailing, hg]
        | some g => exact checkClearFault_gate s object g hg
      · rw [if_neg ho, faultObject, if_pos (by omega)]
        cases hp : Panel.ofCode (object - 16) with
        | none => simp [State.checkClearFault, firstFailing, hp]
        | some p => exact checkClearFault_panel s (object - 16) p hp
    · exact checkRestart_eq ..

end Sys2Proof.Orders

/-! Chapter 2: the rows of one action each: RESTART, CLEAR_FAULT, the gate actions, POST and CLEAR_POST. -/
namespace Sys2Proof.Orders

open Machine Safety

/-! ## A bundle of one action (R38) -/

section
variable {s : State} {c : Instr} {level : Nat} {a : OrderAction}

/-- An action that changes no notice leaves the notices to the others. -/
theorem applyNotice_other (e : Nat) (named : List NoticeKey) (hn : a.onNotices = false) :
    s.applyNotice e named a = (s, []) := by
  cases a with
  | issue | amend | lift => cases hn
  | _ => rfl

/-- A bundle of one action that changes no notice makes its change, and then what follows from it (R38). -/
theorem applyBundle_single (e : Nat) (hn : a.onNotices = false) :
    s.applyBundle e [a] = ((s.applyRecord e a).applyEffect a, []) := by
  simp [State.applyBundle, State.applyNotices, applyNotice_other _ _ hn, hn]

/-- A bundle of one action passes where the level is in range, the effective level is an order's, and the action's own checks
pass. -/
theorem judge_single (hr : level ≤ 3) (he : max s.keyLevel level ≤ 2)
    (hc : ∀ room k, s.checkAction (max s.keyLevel level) room k a = none) : s.judge level [a] = none := by
  rw [judge_eq_judgeActions s [a] level hr le_rfl (by simp) he]
  simp [State.judgeActions, hc]

/-- A row of one action that changes no notice, its checks passed: the action is applied and answered OK. -/
theorem serve_action (hs : Serves s c) (hr : level ≤ 3) (he : max s.keyLevel level ≤ 2) (hn : a.onNotices = false)
    (hc : ∀ room k, s.checkAction (max s.keyLevel level) room k a = none) :
    s.serve c (fun u => u.takeBundle level [a]) =
      .next ((((s.take c).applyRecord (max s.keyLevel level) a).applyEffect a).respond .ok []) := by
  have hj : (s.take c).judge level [a] = none := (judge_take level [a]).trans (judge_single hr he hc)
  rw [serve_of_serves hs, State.takeBundle_passed _ _ _ hj, applyBundle_single _ hn]
  rfl

end

/-! ## RESTART (R47) -/

/-- Settles O23: RESTART is a bundle of one action that marks the port, and the mark decides how the response ends. -/
theorem restartResets : Obligations.RestartResets := by
  refine ⟨fun s level hs hr he => ?_, fun s frame hp hm => ?_, fun s frame hrun hp hm => ?_⟩
  · have hc : ∀ room k, s.checkAction (max s.keyLevel level) room k .restart = none := fun room k => by
      rw [checkRestart_eq, he]
      rfl
    exact serve_action hs hr (by omega) rfl hc
  · have hp' : (s.take .responseComplete).port.state = .responding frame 0 := hp
    have hm' : (s.take .responseComplete).port.restart = true := hm
    show execResponseComplete s = _
    unfold execResponseComplete
    simp only [hp', hm', if_true]
    rfl
  · have hp' : (s.take .responseComplete).port.state = .responding frame 0 := hp
    have hm' : (s.take .responseComplete).port.restart = false := hm
    show execResponseComplete s = _
    unfold execResponseComplete State.applySetting
    simp only [hp', hm', Bool.false_eq_true, if_false]
    simp [State.running, hrun, State.setPort]

/-! ## CLEAR_FAULT (R46, R71, R111) -/

theorem faultObject_panel (panel : Nat) : faultObject (16 + panel) = .panel panel := by
  simp [faultObject]

theorem faultObject_gate {gate : Nat} {g : GateId} (hg : GateId.ofCode gate = some g) : faultObject gate = .gate gate := by
  have hlt : gate < 16 := by
    unfold GateId.ofCode at hg
    split at hg
    · omega
    · omega
    · cases hg
  exact if_neg (by omega)

section
variable {s : State} {level : Nat}

/-- CLEAR_FAULT of a configured panel in FAULT. -/
theorem exec_clearFault_panel {panel : Nat} {p : Panel} (hs : Serves s (.clearFault level (16 + panel))) (hr : level ≤ 3)
    (he : max s.keyLevel level ≤ 2) (hp : Panel.ofCode panel = some p) (hc : (s.cfg.panels.get p).isSome = true)
    (hf : (s.panels.get p).state = .fault) :
    exec (.clearFault level (16 + panel)) s =
      .next (((s.take (.clearFault level (16 + panel))).recoverPanel p).respond .ok []) := by
  have hcheck : ∀ room k, s.checkAction (max s.keyLevel level) room k (.clearFault (16 + panel)) = none := by
    intro room k
    show s.checkClearFault (faultObject (16 + panel)) = none
    rw [faultObject_panel, checkClearFault_panel s panel p hp]
    simp [Option.isSome_iff_ne_none.mp hc, hf]
  refine (serve_action (a := .clearFault (16 + panel)) hs hr he rfl hcheck).trans ?_
  simp [State.applyRecord, State.applyEffect, faultObject_panel, hp]

/-- CLEAR_FAULT of a fitted gate in FAULT. -/
theorem exec_clearFault_gate {gate : Nat} {g : GateId} {c : GateCfg} (hs : Serves s (.clearFault level gate))
    (hr : level ≤ 3) (he : max s.keyLevel level ≤ 2) (hg : GateId.ofCode gate = some g)
    (hc : s.cfg.gates.get g = some c) (hf : (s.gates.get g).state = .fault) :
    exec (.clearFault level gate) s =
      .next ((moved (s.take (.clearFault level gate)) g (recovers s g c (s.gates.get g))).respond .ok []) := by
  have hcheck : ∀ room k, s.checkAction (max s.keyLevel level) room k (.clearFault gate) = none := by
    intro room k
    show s.checkClearFault (faultObject gate) = none
    rw [faultObject_gate hg, checkClearFault_gate s gate g hg]
    simp [hc, hf]
  have hrec : (s.take (.clearFault level gate)).recoverGate g c = _ := recoverGate_eq c hf
  refine (serve_action (a := .clearFault gate) hs hr he rfl hcheck).trans ?_
  simp only [State.applyRecord, State.applyEffect, faultObject_gate hg, hg, State.take_cfg, hc, Option.elim, hrec]
  rfl

end

/-- What opening leaves: the demand, no cause, and WARNING in place of OPEN with demand CLOSE (R54). -/
theorem opens_fst (s : State) (g : GateId) (c : GateCfg) (x : Gate) :
    (opens s g c x).1.demand = x.demand ∧ (opens s g c x).1.cause = none ∧
      (opens s g c x).1.state = if x.demand = .opening then .opened else .warning := by
  unfold opens
  split <;> rename_i hd <;> simp [enters, entersThrough, entered, movedTo, hd]

section
variable {s : State} {g : GateId} {c : GateCfg} {x : Gate}

/-- A gate found at its UP limit recovers through OPEN (R71). -/
theorem recovers_up (hu : s.up g = true) (hd : s.down g = false) :
    recovers s g c x = opens s g c { x with demand := demandNow s c x } := by
  simp [recovers, hu, hd]

/-- A gate found at its DOWN limit recovers through CLOSED (R71). -/
theorem recovers_down (hu : s.up g = false) (hd : s.down g = true) :
    recovers s g c x =
      if demandNow s c x = .opening then entersThrough s g c { x with demand := demandNow s c x } .closed .raising
      else enters s g c { x with demand := demandNow s c x } .closed := by
  simp [recovers, hu, hd]

/-- A gate found between its limits raises (R71). -/
theorem recovers_between (hu : s.up g = false) (hd : s.down g = false) :
    recovers s g c x = enters s g c { x with demand := demandNow s c x } .raising := by
  simp [recovers, hu, hd]

/-- A gate found at both limits stays in FAULT (R71). -/
theorem recovers_conflict (hu : s.up g = true) (hd : s.down g = true) :
    recovers s g c x = ({ x with cause := some .limitConflict }, []) := by
  simp [recovers, hu, hd]

end

/-- Settles O22: a recovered panel by R111, a recovered gate by its limits, the case of each pair of limits a lemma about
`recovers`. -/
theorem clearFaultRecovers : Obligations.ClearFaultRecovers := by
  refine ⟨fun s level panel p hs hr he hp hc hf => ?_, fun s level gate g c hs hr he hg hc hf => ⟨?_, ?_⟩⟩
  · rw [exec_clearFault_panel hs hr he hp hc hf]
    simp [State.recoverPanel, hf, PanelRec.beginRender, State.setPanel]
  · exact gateDemand_eq ..
  · refine ⟨_, { s.gates.get g with demand := s.gateDemand g c }, (recovers s g c (s.gates.get g)).2,
      exec_clearFault_gate hs hr he hg hc hf, rfl, rfl, ?_⟩
    simp only [State.respond_gates, moved_gates, State.take_gates, PerGate.get_set_self, gateDemand_eq]
    refine ⟨recovers_up, recovers_down, recovers_between, fun hu hd => ?_, fun hu hd => ?_, fun hu hd => ?_,
      fun hu hd => ?_, fun hu hd => ?_, fun h => PerGate.get_set_other _ _ _ _, rfl, rfl⟩
    · rw [recovers_conflict hu hd]
    · rw [recovers_up hu hd]
      exact opens_fst ..
    · rw [recovers_down hu hd]
      split
      · exact ⟨rfl, rfl, rfl⟩
      · exact ⟨rfl, rfl, rfl⟩
    · rw [recovers_between hu hd]
      simp [enters, entered, movedTo, hf]
    · rw [recovers_conflict hu hd]

end Sys2Proof.Orders

/-! Chapter 2: the gate actions. -/
namespace Sys2Proof.Orders

open Machine Safety

/-! ## What a move leaves of the orders to a gate (R44, R45) -/

/-- A record that has another's mode, hold level, demand and bypass mark. -/
def SameOrders (x y : Gate) : Prop :=
  y.mode = x.mode ∧ y.holdLevel = x.holdLevel ∧ y.demand = x.demand ∧ y.bypass = x.bypass

section
variable {s : State} {g : GateId} {c : GateCfg} {x y : Gate}

/-- A gate that re-evaluates its demand keeps its mode and its hold level and has the demand of R52. -/
theorem reacts_fst (s : State) (g : GateId) (c : GateCfg) (x : Gate) :
    (reacts s g c x).1.mode = x.mode ∧ (reacts s g c x).1.holdLevel = x.holdLevel ∧
      (reacts s g c x).1.demand = demandNow s c x := by
  unfold reacts opens
  dsimp only
  split_ifs with hd
  · exact ⟨rfl, rfl, hd.symm⟩
  all_goals exact ⟨rfl, rfl, rfl⟩

/-- On a demand of CLOSE the bypass mark stays. -/
theorem reacts_bypass (h : demandNow s c x = .closing) : (reacts s g c x).1.bypass = x.bypass := by
  unfold reacts
  dsimp only
  split_ifs with _ ho
  · rfl
  · cases h.symm.trans ho
  · cases h.symm.trans ho
  · cases h.symm.trans ho
  · rfl
  · rfl

/-- The lowering test leaves the orders to the gate. -/
theorem loweringTested_sameOrders {beam : Bool} (h : LoweringTested s g c beam y) : SameOrders (s.gates.get g) y := by
  obtain ⟨hlow, hstay⟩ := h
  by_cases hc : PreWarned s g c ∧ beam = false ∧ ((s.gates.get g).bypass = true ∨ PanelPart s g c)
  · rw [hlow hc]
    exact ⟨rfl, rfl, rfl, rfl⟩
  · obtain ⟨b, rfl, -⟩ := hstay hc
    exact ⟨rfl, rfl, rfl, rfl⟩

@[simp] theorem reacts_setGate (z : Gate) : reacts (s.setGate g z) g c x = reacts s g c x := rfl

/-- A gate that re-evaluates its demand with another record put in its place. -/
theorem reevaluate_setGate (hc : s.cfg.gates.get g = some c) :
    (s.setGate g x).reevaluate g = moved s g (reacts s g c x) := by
  have h := reevaluate_eq (s.setGate g x) g c hc
  simpa using h

end

/-! ## HOLD_OPEN, HOLD_CLOSED, RELEASE and FORCE_CLOSE (R44, R45) -/

section
variable {s : State} {g : GateId} {gate : Nat}

theorem setMode_eq (hg : GateId.ofCode gate = some g) (mode : GateMode) (hold : Option Nat) :
    s.setMode gate mode hold = s.setGate g { s.gates.get g with mode := mode, holdLevel := hold } := by
  simp [State.setMode, hg]

/-- FORCE_CLOSE holds the gate closed at level 0, and sets the bypass mark unless it is CLOSED. -/
theorem setBypass_eq (hg : GateId.ofCode gate = some g) :
    (s.setMode gate .heldClosed (some 0)).setBypass gate = s.setGate g { s.gates.get g with
      mode := .heldClosed, holdLevel := some 0
      bypass := (s.gates.get g).bypass || decide ((s.gates.get g).state ≠ .closed) } := by
  rw [setMode_eq hg]
  by_cases hst : (s.gates.get g).state = .closed <;> simp [State.setBypass, hg, hst, State.setGate]

variable {c : Instr} {level : Nat} {cfg : GateCfg}

/-- A row that gives a gate its mode, its checks passed: the gate moves by its demand as it now is. -/
theorem serve_mode {a : OrderAction} {mode : GateMode} {hold : Option Nat} {weakest : Nat} {x : Gate} (hs : Serves s c)
    (hr : level ≤ 3) (hg : GateId.ofCode gate = some g) (hc : s.cfg.gates.get g = some cfg)
    (hold_ok : (s.gates.get g).mode = .auto ∨ ∀ l, (s.gates.get g).holdLevel = some l → max s.keyLevel level ≤ l)
    (he : max s.keyLevel level ≤ weakest) (hw : weakest ≤ 2) (hn : a.onNotices = false)
    (hcheck : ∀ room k, s.checkAction (max s.keyLevel level) room k a = s.checkMode (max s.keyLevel level) weakest gate)
    (hrecord : (s.take c).applyRecord (max s.keyLevel level) a = (s.take c).setMode gate mode hold)
    (heffect : ∀ u, State.applyEffect u a = (GateId.ofCode gate).elim u u.reevaluate)
    (hx : x = { s.gates.get g with mode := mode, holdLevel := hold }) :
    s.serve c (fun u => u.takeBundle level [a]) = .next ((moved (s.take c) g (reacts s g cfg x)).respond .ok []) := by
  have hpass : ∀ room k, s.checkAction (max s.keyLevel level) room k a = none := by
    intro room k
    have hlevel : ¬((s.gates.get g).mode ≠ .auto ∧
        (s.gates.get g).holdLevel.any (fun l => decide (l < max s.keyLevel level)) = true) := by
      rintro ⟨hm, hl⟩
      obtain ⟨l, hl, hlt⟩ := (Option.any_eq_true _ _).mp hl
      have hle := hold_ok.resolve_left hm l hl
      simp at hlt
      omega
    rw [hcheck, checkMode_eq s _ weakest gate g hg, if_neg (by simp [hc]), if_neg (by omega), if_neg hlevel]
  have hmove : ((s.take c).setGate g x).reevaluate g = _ := reevaluate_setGate (s := s.take c) hc
  rw [hx] at hmove ⊢
  rw [serve_action hs hr (he.trans hw) hn hpass, hrecord, setMode_eq hg, heffect, hg]
  exact congrArg (fun u => Host.Outcome.next (State.respond u .ok [])) hmove

/-- FORCE_CLOSE whose checks pass: the gate moves by its demand, and one that then stands in WARNING tests the lowering
conditions. -/
theorem exec_forceClose {x : Gate} (hs : Serves s (.forceClose level gate)) (hr : level ≤ 3)
    (hg : GateId.ofCode gate = some g) (hc : s.cfg.gates.get g = some cfg) (he : max s.keyLevel level = 0)
    (hx : x = { s.gates.get g with
      mode := .heldClosed, holdLevel := some 0
      bypass := (s.gates.get g).bypass || decide ((s.gates.get g).state ≠ .closed) }) :
    ∃ z, exec (.forceClose level gate) s =
        .next ((moved (s.take (.forceClose level gate)) g (z, (reacts s g cfg x).2)).respond .ok []) ∧
      ((reacts s g cfg x).1.state ≠ .warning → z = (reacts s g cfg x).1) ∧
      ((reacts s g cfg x).1.state = .warning →
        LoweringTested { s with gates := s.gates.set g (reacts s g cfg x).1 } g cfg (s.beamBroken g) z) := by
  have hpass : ∀ room k, s.checkAction (max s.keyLevel level) room k (.forceClose gate) = none := fun room k => by
    show s.checkForceClose _ gate = none
    rw [checkForceClose_eq s _ gate g hg, if_neg (by simp [hc]), if_neg (by simp [he])]
  have hexec : exec (.forceClose level gate) s =
      .next (((moved (s.take (.forceClose level gate)) g (reacts s g cfg x)).testLowering g).respond .ok []) := by
    have hmove : ((s.take (.forceClose level gate)).setGate g x).reevaluate g = _ :=
      reevaluate_setGate (s := s.take (.forceClose level gate)) hc
    have hrecord : (s.take (.forceClose level gate)).applyRecord (max s.keyLevel level) (.forceClose gate) =
        (s.take (.forceClose level gate)).setGate g x := by
      rw [hx]
      exact setBypass_eq hg
    refine (serve_action (a := .forceClose gate) hs hr (by omega) rfl hpass).trans ?_
    simp only [hrecord, State.applyEffect, hg, Option.elim, hmove]
    rfl
  rw [hexec]
  by_cases hw : (reacts s g cfg x).1.state = .warning
  · obtain ⟨z, hz, ht⟩ := testLowering_eq (moved (s.take (.forceClose level gate)) g (reacts s g cfg x)) g cfg hc
      (by simpa using hw)
    refine ⟨z, by simp [hz], fun hne => absurd hw hne, fun _ => ht⟩
  · refine ⟨_, ?_, fun _ => rfl, fun h => absurd h hw⟩
    rw [testLowering_other _ g (by simpa using hw)]

/-- A gate action whose checks pass, whichever of the four it is: the gate moves by its demand, and a FORCE_CLOSE that leaves it
in WARNING tests the lowering conditions. -/
theorem exec_gate_action {mode : GateMode} {hold : Option Nat} {x : Gate}
    (ha : (c = .holdOpen level gate ∧ max s.keyLevel level ≤ 1 ∧ mode = .heldOpen ∧ hold = some (max s.keyLevel level)) ∨
      (c = .holdClosed level gate ∧ max s.keyLevel level ≤ 2 ∧ mode = .heldClosed ∧
        hold = some (max s.keyLevel level)) ∨
      (c = .release level gate ∧ max s.keyLevel level ≤ 2 ∧ mode = .auto ∧ hold = none) ∨
      (c = .forceClose level gate ∧ max s.keyLevel level = 0 ∧ mode = .heldClosed ∧ hold = some 0))
    (hs : Serves s c) (hr : level ≤ 3) (hg : GateId.ofCode gate = some g) (hc : s.cfg.gates.get g = some cfg)
    (hold_ok : (s.gates.get g).mode = .auto ∨ ∀ l, (s.gates.get g).holdLevel = some l → max s.keyLevel level ≤ l)
    (hx : x = { s.gates.get g with
      mode := mode, holdLevel := hold
      bypass := (s.gates.get g).bypass ||
        (decide (c = .forceClose level gate) && decide ((s.gates.get g).state ≠ .closed)) }) :
    ∃ z, exec c s = .next ((moved (s.take c) g (z, (reacts s g cfg x).2)).respond .ok []) ∧
      ((c ≠ .forceClose level gate ∨ (reacts s g cfg x).1.state ≠ .warning) → z = (reacts s g cfg x).1) ∧
      (c = .forceClose level gate → (reacts s g cfg x).1.state = .warning →
        LoweringTested { s with gates := s.gates.set g (reacts s g cfg x).1 } g cfg (s.beamBroken g) z) := by
  have hplain (hne : c ≠ .forceClose level gate) : x = { s.gates.get g with mode := mode, holdLevel := hold } := by
    simp [hx, hne]
  rcases ha with ⟨rfl, he, rfl, rfl⟩ | ⟨rfl, he, rfl, rfl⟩ | ⟨rfl, he, rfl, rfl⟩ | ⟨rfl, he, rfl, rfl⟩
  · exact ⟨_, serve_mode hs hr hg hc hold_ok he (by omega) rfl (fun _ _ => rfl) rfl (fun _ => rfl) (hplain nofun),
      fun _ => rfl, nofun⟩
  · exact ⟨_, serve_mode hs hr hg hc hold_ok he le_rfl rfl (fun _ _ => rfl) rfl (fun _ => rfl) (hplain nofun),
      fun _ => rfl, nofun⟩
  · exact ⟨_, serve_mode hs hr hg hc hold_ok he le_rfl rfl (fun _ _ => rfl) rfl (fun _ => rfl) (hplain nofun),
      fun _ => rfl, nofun⟩
  · simp only [decide_true, Bool.true_and] at hx
    obtain ⟨z, hz, hother, htest⟩ := exec_forceClose hs hr hg hc he hx
    exact ⟨z, hz, fun h => hother (h.resolve_left fun hne => hne rfl), fun _ => htest⟩

end

/-- Settles O21: `exec_gate_action` for the four rows, and what a move leaves of the orders to the gate. -/
theorem gateModes : Obligations.GateModes := by
  refine ⟨fun settle conv mode kind => demandOf_eq .., fun s c level gate g cfg mode hold ha hs hr hg hc hold_ok => ?_⟩
  obtain ⟨x, hx⟩ : ∃ x : Gate, x = { s.gates.get g with
    mode := mode, holdLevel := hold
    bypass := (s.gates.get g).bypass ||
      (decide (c = .forceClose level gate) && decide ((s.gates.get g).state ≠ .closed)) } := ⟨_, rfl⟩
  obtain ⟨z, hexec, hother, htest⟩ := exec_gate_action ha hs hr hg hc hold_ok hx
  obtain ⟨hymode, hyhold, hydemand⟩ := reacts_fst s g cfg x
  obtain ⟨hmode, hhold, hdemand, hbypass⟩ : SameOrders (reacts s g cfg x).1 z := by
    by_cases hf : c = .forceClose level gate ∧ (reacts s g cfg x).1.state = .warning
    · simpa using loweringTested_sameOrders (htest hf.1 hf.2)
    · rw [hother (not_and_or.mp hf)]
      exact ⟨rfl, rfl, rfl, rfl⟩
  have hforce : c = .forceClose level gate → z.bypass = x.bypass := by
    rintro rfl
    have hm : mode = .heldClosed := by
      simp only [reduceCtorEq, false_and, false_or, true_and] at ha
      exact ha.2.1
    exact hbypass.trans (reacts_bypass (by simp [demandNow, hx, hm]))
  have hget : (((moved (s.take c) g (z, (reacts s g cfg x).2)).respond .ok []).gates.get g) = z := by simp
  refine ⟨_, x, reacts s g cfg x, hexec, ?_⟩
  rw [hget]
  refine ⟨?_, ?_, ?_, fun hf hst => ?_, fun hf hst => ?_, hx, rfl, rfl, hother, htest,
    fun h => PerGate.get_set_other _ _ _ _, rfl, rfl⟩
  · rw [hmode, hymode, hx]
  · rw [hhold, hyhold, hx]
  · rw [hdemand, hydemand, demandNow_eq, hx]
  · simp [hforce hf, hx, hf, hst]
  · simp [hforce hf, hx, hst]

end Sys2Proof.Orders

/-! Chapter 2: POST and CLEAR_POST, the operator's claim on a panel (R42, R43, R82, R83). -/
namespace Sys2Proof.Orders

open Machine Safety

/-! ## Placing a claim (R82) -/

/-- Inserting a claim leaves the claims of every other identity, in their order. -/
theorem insertClaim_others (c : Claim) (xs : List Claim) :
    (insertClaim c xs).filter (fun x => x.id ≠ c.id) = xs.filter fun x => x.id ≠ c.id := by
  induction xs with
  | nil => simp [insertClaim]
  | cons y ys ih =>
    unfold insertClaim
    split
    · simp
    · rw [List.filter_cons, List.filter_cons, ih]

/-- Withdrawing an identity leaves the claims of every other one. -/
theorem withdrawClaim_others (id : ClaimId) (xs : List Claim) :
    (withdrawClaim id xs).filter (fun x => x.id ≠ id) = xs.filter fun x => x.id ≠ id := by
  simp [withdrawClaim]

/-- Giving the claims of an identity a new level and end time leaves the claims of every other identity. -/
theorem reassert_others (c : Claim) (xs : List Claim) :
    (xs.map fun x => if x.id = c.id then { x with level := c.level, endTime := c.endTime } else x).filter
      (fun x => x.id ≠ c.id) = xs.filter fun x => x.id ≠ c.id := by
  induction xs with
  | nil => rfl
  | cons y ys ih =>
    rw [List.map_cons, List.filter_cons, List.filter_cons, ih]
    by_cases hy : y.id = c.id
    · simp [hy]
    · simp [hy]

/-- Placing a claim leaves the claims of every other identity, in their order. -/
theorem placeClaim_others (c : Claim) (xs : List Claim) :
    (placeClaim c xs).filter (fun x => x.id ≠ c.id) = xs.filter fun x => x.id ≠ c.id := by
  unfold placeClaim
  split
  · split
    · exact reassert_others c xs
    · rw [insertClaim_others, withdrawClaim_others]
  · exact insertClaim_others c xs

/-- The claim of the stack that a claim is, once it is placed: the held claim of the same identity, descriptor and priority with
the new level and end time, and otherwise the claim itself. -/
def placedClaim (c : Claim) (xs : List Claim) : Claim :=
  match xs.find? fun x => x.id = c.id with
  | some old =>
    if old.descriptor = c.descriptor ∧ old.priority = c.priority then
      { old with level := c.level, endTime := c.endTime }
    else c
  | none => c

/-- The claim stands in the stack it is placed in. -/
theorem placedClaim_mem (c : Claim) (xs : List Claim) : placedClaim c xs ∈ placeClaim c xs := by
  unfold placedClaim placeClaim
  cases hold : xs.find? fun x => x.id = c.id with
  | none => exact (mem_insertClaim ..).mpr (.inl rfl)
  | some old =>
    have hid : old.id = c.id := by simpa using List.find?_some hold
    by_cases h : old.descriptor = c.descriptor ∧ old.priority = c.priority
    · simp only [if_pos h]
      exact List.mem_map.mpr ⟨old, List.mem_of_find?_eq_some hold, if_pos hid⟩
    · simp only [if_neg h]
      exact (mem_insertClaim ..).mpr (.inl rfl)

/-- The placed claim has all of the claim's fields but the placement time, which is the held claim's where that one had the same
descriptor and priority. -/
theorem placedClaim_eq (c : Claim) (xs : List Claim) :
    placedClaim c xs = { c with placed := (placedClaim c xs).placed } ∧
      match xs.find? fun x => x.id = c.id with
      | some old =>
        if old.descriptor = c.descriptor ∧ old.priority = c.priority then (placedClaim c xs).placed = old.placed
        else (placedClaim c xs).placed = c.placed
      | none => (placedClaim c xs).placed = c.placed := by
  unfold placedClaim
  cases hold : xs.find? fun x => x.id = c.id with
  | none => exact ⟨rfl, rfl⟩
  | some old =>
    have hid : old.id = c.id := by simpa using List.find?_some hold
    by_cases h : old.descriptor = c.descriptor ∧ old.priority = c.priority
    · obtain ⟨hdesc, hprio⟩ := h
      simp only [hdesc, hprio, and_self, if_true, ← hid]
    · simp only [if_neg h, and_self]

/-! ## What the Panel Drivers are told (R83) -/

/-- A lead changes exactly where the first claims are not the same record. -/
theorem leadChanged_eq_false_iff (old new : List Claim) :
    leadChanged old new = false ↔
      new.head?.map (fun c => (c.id, c.descriptor, c.priority, c.placed)) =
        old.head?.map fun c => (c.id, c.descriptor, c.priority, c.placed) := by
  unfold leadChanged
  rw [eq_comm (a := new.head?.map _)]
  cases old.head? <;> cases new.head? <;> simp [Claim.sameRecord, and_assoc]

/-- A panel is told its new lead where the lead changes. -/
theorem leadTells_eq (s t : State) (p : Panel) :
    leadTells s t p =
      if leadChanged (s.displays.get p).claims (t.displays.get p).claims then
        [.renderTrigger p ((t.displays.get p).claims.head?.map s.leadOf)]
      else [] := by
  unfold leadTells
  cases h : leadChanged (s.displays.get p).claims (t.displays.get p).claims with
  | false => exact if_pos ((leadChanged_eq_false_iff ..).mp h)
  | true =>
    refine if_neg fun heq => ?_
    rw [(leadChanged_eq_false_iff ..).mpr heq] at h
    cases h

/-- A panel whose claims stay is told nothing. -/
theorem leadTells_of_same (s t : State) (p : Panel) (h : t.displays.get p = s.displays.get p) : leadTells s t p = [] := by
  simp [leadTells, h]

/-- A change to one stack tells what its panel is told. -/
theorem changeStack_told (s : State) (p : Panel) (f : List Claim → List Claim)
    (h : (s.cfg.panels.get p).isSome = true) :
    (s.changeStack p f).told = s.told ++ leadTells s (s.changeStack p f) p := by
  rw [leadTells_eq, State.changeStack_claims s p f h]
  unfold State.changeStack
  rw [if_pos h]
  by_cases hl : leadChanged (s.displays.get p).claims (f (s.displays.get p).claims) = true
  · simp [hl]
  · simp [hl]

/-- A change to one stack hands over the text of a lead that changes. -/
theorem changeStack_handed (s : State) (p : Panel) (f : List Claim → List Claim)
    (h : (s.cfg.panels.get p).isSome = true) :
    ((s.changeStack p f).displays.get p).handed =
      if leadTells s (s.changeStack p f) p = [] then (s.displays.get p).handed
      else ((s.changeStack p f).displays.get p).claims.head?.map fun c => s.messageText c.descriptor := by
  rw [leadTells_eq, State.changeStack_claims s p f h]
  unfold State.changeStack
  rw [if_pos h]
  by_cases hl : leadChanged (s.displays.get p).claims (f (s.displays.get p).claims) = true
  · simp [hl, State.leadOf, Function.comp_def]
  · simp [hl]

/-- The messages about the panels, where one panel only is told anything. -/
theorem flatMap_leadTells_single (s t : State) (p : Panel) (h : ∀ q, q ≠ p → leadTells s t q = []) :
    [Panel.a, .b, .c].flatMap (leadTells s t) = leadTells s t p := by
  cases p with
  | a => simp [h .b (by decide), h .c (by decide)]
  | b => simp [h .a (by decide), h .c (by decide)]
  | c => simp [h .a (by decide), h .b (by decide)]

/-- A change to one configured panel's stack tells the leads as R83 gives. -/
theorem changeStack_leadsTold (s : State) (p : Panel) (f : List Claim → List Claim)
    (h : (s.cfg.panels.get p).isSome = true) : LeadsTold s (s.changeStack p f) s.told := by
  have hother : ∀ q, q ≠ p → leadTells s (s.changeStack p f) q = [] := fun q hq =>
    leadTells_of_same _ _ _ (State.changeStack_other s p q f hq)
  refine ⟨?_, fun q => ?_⟩
  · rw [flatMap_leadTells_single _ _ p hother]
    exact changeStack_told s p f h
  · by_cases hq : q = p
    · rw [hq]
      exact changeStack_handed s p f h
    · rw [hother q hq, if_pos rfl, State.changeStack_other s p q f hq]

/-! ## The two rows -/

section
variable {s : State} {e : Nat} {p : Panel}

/-- No post is stronger than the effective level where every OPERATOR claim's level is at least as weak. -/
theorem postOf_not_stronger
    (h : ∀ c ∈ (s.displays.get p).claims, c.id = .operator → ∀ l, c.level = some l → e ≤ l) :
    ¬(s.postOf p).any (fun c => c.level.any fun l => decide (l < e)) = true := by
  cases hpost : s.postOf p with
  | none => simp
  | some c =>
    have hid : c.id = .operator := by simpa using List.find?_some hpost
    have hweak := h c (List.mem_of_find?_eq_some hpost) hid
    cases hl : c.level with
    | none => simp [hl]
    | some l => simpa [hl] using hweak l hl

/-- A POST that its hypotheses allow passes its checks. -/
theorem checkPost_passes {panel descriptor priority duration : Nat} (hp : Panel.ofCode panel = some p)
    (hfit : (s.cfg.panels.get p).isSome = true) (hd : descriptor ≤ 63) (hdur : duration ≤ 1440)
    (hpres : (s.descriptor descriptor).present = true) (hmask : (s.descriptor descriptor).cfg.mask.get p = true)
    (hlev : e ≤ (s.descriptor descriptor).cfg.postLevel)
    (hprio : priority ≤ if e = 0 then 15 else if e = 1 then 13 else 11)
    (hweak : ∀ c ∈ (s.displays.get p).claims, c.id = .operator → ∀ l, c.level = some l → e ≤ l) :
    s.checkPost e panel descriptor priority duration = none := by
  have hprio15 : priority ≤ 15 := by
    refine hprio.trans ?_
    split_ifs <;> omega
  have hunfit : ¬(s.cfg.panels.get p).isNone = true := by simpa [← Option.isSome_iff_ne_none] using hfit
  rw [checkPost_eq s e panel descriptor priority duration p hp, if_neg (by omega), if_neg hunfit, if_neg (by simp [hpres]),
    if_neg (by simp [hmask]), if_neg (by omega), if_neg (by omega), if_neg (postOf_not_stronger hweak)]

/-- A CLEAR_POST of a post that is not stronger passes its checks. -/
theorem checkClearPost_passes {panel : Nat} {c : Claim} (hp : Panel.ofCode panel = some p)
    (hfit : (s.cfg.panels.get p).isSome = true) (hmem : c ∈ (s.displays.get p).claims) (hid : c.id = .operator)
    (hweak : ∀ c ∈ (s.displays.get p).claims, c.id = .operator → ∀ l, c.level = some l → e ≤ l) :
    s.checkClearPost e panel = none := by
  have hunfit : ¬(s.cfg.panels.get p).isNone = true := by simpa [← Option.isSome_iff_ne_none] using hfit
  have hpost : s.postOf p ≠ none := by
    rw [postOf_eq, Ne, List.find?_eq_none]
    exact fun h => h c hmem (by simpa using hid)
  rw [checkClearPost_eq s e panel p hp, if_neg hunfit, if_neg hpost, if_neg (postOf_not_stronger hweak)]

end

/-- A row of one action that changes a configured panel's stack: what it leaves, the panels told and the answer. -/
theorem stack_row {s : State} {c : Instr} {p : Panel} (f : List Claim → List Claim)
    (hp : (s.cfg.panels.get p).isSome = true) :
    let t := ((s.take c).changeStack p f).respond .ok []
    (t.displays.get p).claims = f (s.displays.get p).claims ∧
      (∀ q, q ≠ p → t.displays.get q = s.displays.get q) ∧ t.port = (s.respond .ok []).port ∧
      LeadsTold s t (s.take c).told ∧
      { t with displays := s.displays, told := s.told, port := s.port } = s := by
  have hp' : ((s.take c).cfg.panels.get p).isSome = true := hp
  obtain ⟨htold, hhanded⟩ := changeStack_leadsTold (s.take c) p f hp'
  refine ⟨State.changeStack_claims (s.take c) p f hp', fun q hq => State.changeStack_other (s.take c) p q f hq, ?_, 
    ⟨htold, hhanded⟩, ?_⟩
  · exact congrArg (fun port => ({ s with port := port }.respond .ok []).port)
      (congrArg State.port (State.changeStack_frame (s.take c) p f))
  · exact congrArg (fun u : State => { u with displays := s.displays, told := s.told, port := s.port })
      (State.changeStack_frame (s.take c) p f)

/-- Settles O20: both rows are one change to the panel's stack, a placed claim or a withdrawn one. -/
theorem postAndClearPost : Obligations.PostAndClearPost := by
  refine ⟨fun s level panel descriptor priority duration p hs hr he hp hfit hd hdur hpres hmask hlev hprio hweak => ?_,
    fun s level panel p c hs hr he hp hfit hmem hid hweak => ?_⟩
  · obtain ⟨post, hpost⟩ : ∃ post : Claim,
        post = postClaim descriptor priority duration (max s.keyLevel level) s.minute s.clock := ⟨_, rfl⟩
    have hrecord : (s.take (.post level panel descriptor priority duration)).applyRecord (max s.keyLevel level)
        (.post panel descriptor priority duration) =
          (s.take (.post level panel descriptor priority duration)).changeStack p (placeClaim post) := by
      simp only [State.applyRecord, hp, hpost]
      rfl
    have hexec := serve_action (a := .post panel descriptor priority duration) hs hr he rfl fun _ _ =>
      checkPost_passes hp hfit hd hdur hpres hmask hlev hprio hweak
    rw [hrecord] at hexec
    obtain ⟨hclaims, hrest⟩ := stack_row (c := .post level panel descriptor priority duration) (placeClaim post) hfit
    obtain ⟨hplaced, hwhen⟩ := placedClaim_eq post (s.displays.get p).claims
    have hothers := placeClaim_others post (s.displays.get p).claims
    rw [← hclaims] at hothers
    have hmem := placedClaim_mem post (s.displays.get p).claims
    rw [← hclaims] at hmem
    subst hpost
    exact ⟨_, _, hexec, hmem, congrArg Claim.id hplaced, congrArg Claim.descriptor hplaced,
      congrArg Claim.priority hplaced, congrArg Claim.level hplaced, congrArg Claim.endTime hplaced, hwhen, hothers, hrest⟩
  · have hrecord (u : State) :
        u.applyRecord (max s.keyLevel level) (.clearPost panel) = u.changeStack p (withdrawClaim .operator) := by
      simp only [State.applyRecord, hp]
    have hexec := serve_action (a := .clearPost panel) hs hr he rfl fun _ _ =>
      checkClearPost_passes hp hfit hmem hid hweak
    rw [hrecord] at hexec
    exact ⟨_, hexec, stack_row (withdrawClaim .operator) hfit⟩

end Sys2Proof.Orders

/-! Chapter 3: a gate's demand, its timers, the lowering test and its limits (R50 to R70). -/
namespace Sys2Proof.Gates

open Machine Safety Orders

/-! ## A running station and a move of one of its gates -/

section
variable {s : State} {g : GateId} {cmd : Instr} {f : State → State} {m n : Gate × List Instr}

theorem event_of_startUp (hs : s.startUp = .running) : s.event cmd f = .next (f (s.take cmd)) :=
  s.event_running cmd f (by simp [State.running, hs])

theorem moved_get : (moved s g m).gates.get g = m.1 := PerGate.get_set_self ..

/-- A move that tells nothing touches the gates only. -/
theorem moved_silent_frame (y : Gate) : { moved s g (y, []) with gates := s.gates } = s := by
  simp [moved, State.setGate, State.tell]

/-- What a gate does is told by the record and the messages it leaves. -/
theorem moved_injective (h : moved s g m = moved s g n) : m = n := by
  have hrec := congrArg (fun t : State => t.gates.get g) h
  have htold := congrArg State.told h
  simp only [moved_get] at hrec
  simp only [moved_told, List.append_cancel_left_eq] at htold
  exact Prod.ext hrec htold

end

/-! ## A change of demand (R52 to R56, R61 to R67) -/

section
variable {s : State} {g : GateId} {c : GateCfg} {x : Gate}

theorem opens_settleHold : (opens s g c x).1.settleHold = x.settleHold := by
  unfold opens
  split <;> rfl

theorem reacts_settleHold : (reacts s g c x).1.settleHold = x.settleHold := by
  unfold reacts
  dsimp only
  split_ifs
  · rfl
  · exact opens_settleHold
  all_goals rfl

/-- The same demand leaves a gate (R53). -/
theorem reacts_same (hd : demandNow s c x = x.demand) : reacts s g c x = (x, []) := if_pos hd

/-- Where a new demand of OPEN leads (R54, R62 to R67). -/
theorem reacts_state_opening (hx : x.demand = .closing) (hd : demandNow s c x = .opening) :
    (reacts s g c x).1.state =
      match x.state with
      | .warning => .opened
      | .waitClear => .opened
      | .lowering => .raising
      | .retreat => .raising
      | .closed => .raising
      | .opened => .opened
      | .raising => .raising
      | .fault => .fault := by
  unfold reacts
  cases hst : x.state <;> simp [hx, hd, opens, enters, entered, movedTo]

/-- Where a new demand of CLOSE leads (R55). -/
theorem reacts_state_closing (hx : x.demand = .opening) (hd : demandNow s c x = .closing) :
    (reacts s g c x).1.state = if x.state = .opened then .warning else x.state := by
  unfold reacts
  by_cases hst : x.state = .opened <;> simp [hx, hd, hst, enters, entered, movedTo]

theorem exec_demandReevaluation (hs : s.startUp = .running) (hc : s.cfg.gates.get g = some c) :
    exec (.demandReevaluation g) s =
      .next (moved (s.take (.demandReevaluation g)) g (reacts s g c (s.gates.get g))) := by
  show execDemandReevaluation g s = _
  rw [execDemandReevaluation, event_of_startUp hs]
  exact congrArg _ (reevaluate_eq (s.take _) g c hc)

end

/-- Settles O29: the row is one move by `reacts`, whose demand and state the lemmas above give. -/
theorem demandReevaluation : Obligations.DemandReevaluation := by
  intro s g c hs hc
  obtain ⟨hmode, hhold, hdemand⟩ := reacts_fst s g c (s.gates.get g)
  refine ⟨_, exec_demandReevaluation hs hc, ?_⟩
  rw [moved_get, hdemand]
  exact ⟨rfl, fun hd => by rw [reacts_same hd]; exact moved_stay (s.take _) g, fun hx hd => reacts_state_opening hx hd,
    fun hx hd => reacts_state_closing hx hd, rfl, rfl, hmode, hhold, reacts_settleHold,
    fun h hne => moved_gates_other (s.take _) g h _ hne, rfl⟩

/-! ## The rows that test the lowering conditions (R57, R59, R60) -/

section
variable {s : State} {g : GateId} {c : GateCfg} {p : Panel}

/-- A test of the lowering conditions changes at most the gate's record. -/
theorem testLowering_moves (s : State) (g : GateId) : ∃ y, s.testLowering g = moved s g (y, []) := by
  by_cases hw : (s.gates.get g).state = .warning
  · cases hc : s.cfg.gates.get g with
    | none => exact ⟨s.gates.get g, by simp [State.testLowering, hc]⟩
    | some c => exact (testLowering_eq s g c hc hw).imp fun _ h => h.1
  · exact ⟨s.gates.get g, by rw [testLowering_other s g hw, moved_stay]⟩

theorem testForPanel_approach (hc : s.cfg.gates.get g = some c) (hp : c.approach.get p = true) :
    s.testForPanel p g = s.testLowering g := by
  simp [State.testForPanel, hc, hp]

/-- A report about a panel changes at most a gate's record. -/
theorem testForPanel_moves (s : State) (p : Panel) (g : GateId) : ∃ y, s.testForPanel p g = moved s g (y, []) := by
  unfold State.testForPanel
  split
  · split
    · exact testLowering_moves s g
    · exact ⟨s.gates.get g, (moved_stay s g).symm⟩
  · exact ⟨s.gates.get g, (moved_stay s g).symm⟩

/-- The test of one gate leaves what the test of another reads. -/
theorem loweringTested_moved {h : GateId} {z y : Gate} {beam : Bool} (hne : g ≠ h)
    (ht : LoweringTested (moved s h (z, [])) g c beam y) : LoweringTested s g c beam y := by
  have hget := moved_gates_other s h g (z, []) hne
  unfold LoweringTested PreWarned at ht ⊢
  rw [hget] at ht
  exact ht

/-- Both gates tested at a report about a panel, Gate 0 first: what it leaves of one that has the panel and is in WARNING. -/
theorem leadStateReport_tests (hc : s.cfg.gates.get g = some c) (hw : (s.gates.get g).state = .warning)
    (hp : c.approach.get p = true) :
    LoweringTested s g c (s.beamBroken g) ((GateId.all.foldl (fun s g => s.testForPanel p g) s).gates.get g) ∧
      { GateId.all.foldl (fun s g => s.testForPanel p g) s with gates := s.gates } = s := by
  obtain ⟨y₀, h₀⟩ := testForPanel_moves s p .g0
  obtain ⟨y₁, h₁⟩ := testForPanel_moves (moved s .g0 (y₀, [])) p .g1
  have hboth : GateId.all.foldl (fun s g => s.testForPanel p g) s = moved (moved s .g0 (y₀, [])) .g1 (y₁, []) := by
    simp only [GateId.all, List.foldl_cons, List.foldl_nil, h₀, h₁]
  rw [hboth]
  refine ⟨?_, by simp [moved, State.setGate, State.tell]⟩
  cases g with
  | g0 =>
    obtain ⟨y, hy, ht⟩ := testLowering_eq s .g0 c hc hw
    rw [testForPanel_approach hc hp, hy] at h₀
    cases moved_injective h₀
    exact ht
  | g1 =>
    obtain ⟨y, hy, ht⟩ := testLowering_eq (moved s .g0 (y₀, [])) .g1 c hc hw
    rw [testForPanel_approach (s := moved s .g0 (y₀, [])) hc hp, hy] at h₁
    cases moved_injective h₁
    rw [moved_get]
    exact loweringTested_moved (by decide) ht

theorem exec_leadStateReport (hs : s.startUp = .running) : exec (.leadStateReport p) s =
    .next (GateId.all.foldl (fun s g => s.testForPanel p g) (s.take (.leadStateReport p))) := by
  show execLeadStateReport p s = _
  rw [execLeadStateReport, event_of_startUp hs]

/-- A row that tests one gate in WARNING: what it leaves of the gate, of the other one and of the station. -/
theorem event_tests {i : Instr} (hs : s.startUp = .running) (hc : s.cfg.gates.get g = some c)
    (hw : (s.gates.get g).state = .warning) :
    ∃ t, s.event i (fun s => s.testLowering g) = .next t ∧ LoweringTested s g c (s.beamBroken g) (t.gates.get g) ∧
      (∀ h, h ≠ g → t.gates.get h = s.gates.get h) ∧ { t with gates := s.gates } = s.take i := by
  obtain ⟨y, hy, ht⟩ := testLowering_eq (s.take i) g c hc hw
  refine ⟨_, (event_of_startUp hs).trans (congrArg _ hy), ?_, fun h hne => moved_gates_other (s.take i) g h _ hne,
    moved_silent_frame (s := s.take i) y⟩
  rw [moved_get]
  exact ht

end

/-- Settles O30: PRE_WARNING_EXPIRY and SHOWN_DURATION_REACHED test the gate they name, and LEAD_STATE_REPORT tests the gates
that have the panel. -/
theorem loweringTest : Obligations.LoweringTest := by
  intro s i g c hs hc hw hi
  rcases hi with rfl | ⟨p, rfl⟩ | ⟨p, rfl, hp⟩
  · obtain ⟨t, hexec, htest, hother, hframe⟩ := event_tests (i := .preWarningExpiry g) hs hc hw
    exact ⟨t, hexec, htest, fun _ => hother, hframe⟩
  · obtain ⟨t, hexec, htest, hother, hframe⟩ := event_tests (i := .shownDurationReached g p) hs hc hw
    exact ⟨t, hexec, htest, fun _ => hother, hframe⟩
  · obtain ⟨htest, hframe⟩ := leadStateReport_tests (s := s.take (.leadStateReport p)) hc hw hp
    exact ⟨_, exec_leadStateReport hs, htest, fun hne => absurd rfl (hne p), hframe⟩

/-! ## The timers (R51, R61, R67, R70) -/

section
variable {s : State} {g : GateId} {c : GateCfg} {u : Nat}

theorem exec_motionLimitExpiry (hs : s.startUp = .running) (hc : s.cfg.gates.get g = some c)
    (hm : (s.gates.get g).motion = some u) :
    exec (.motionLimitExpiry g) s = .next (if u + c.motionLimit * 1000000 ≤ s.clock then
      moved (s.take (.motionLimitExpiry g)) g (faults s g c (s.gates.get g) .motionTimeout)
    else s.take (.motionLimitExpiry g)) := by
  show execMotionLimitExpiry g s = _
  rw [execMotionLimitExpiry, event_of_startUp hs]
  simp only [State.take_cfg, State.take_gates, State.take_clock, hc, hm, hasRun_iff, secondUs, enterFault_eq _ g c]
  rfl

/-- The record of a gate that enters LOWERING from WAIT_CLEAR: its flasher cycle runs on (R51, R67). -/
theorem entered_lowering_of_waitClear (hw : (s.gates.get g).state = .waitClear) :
    entered s g c (s.gates.get g) .lowering = { s.gates.get g with
      state := .lowering, lower := true, raise := false,
      flasher := (s.clock - (s.gates.get g).flashFrom) / 500000 % 2 == 0,
      motion := some s.clock, clear := none, warnEntry := none, signWait := false } := by
  simp [entered, movedTo, hw, flasherOf]

theorem exec_beamClearTimeExpiry (hs : s.startUp = .running) (hc : s.cfg.gates.get g = some c)
    (hw : (s.gates.get g).state = .waitClear) (hd : (s.gates.get g).demand = .closing)
    (hu : (s.gates.get g).clear = some u) (hrun : u + c.beamClear * 1000000 ≤ s.clock) :
    exec (.beamClearTimeExpiry g) s =
      .next ((s.take (.beamClearTimeExpiry g)).setGate g (entered s g c (s.gates.get g) .lowering)) := by
  have hdue : hasRun s.clock u (c.beamClear * secondUs) = true := (hasRun_iff ..).mpr hrun
  show execBeamClearTimeExpiry g s = _
  rw [execBeamClearTimeExpiry, event_of_startUp hs]
  simp only [State.take_cfg, State.take_gates, State.take_clock, hc, hu, hw, hd, hdue, and_self, if_true,
    enterLowering_eq _ g c, setGate_eq_moved]
  rfl

theorem exec_flasherPhase (hs : s.startUp = .running) (hc : s.cfg.gates.get g = some c) :
    exec (.flasherPhase g) s = .next ((s.take (.flasherPhase g)).setGate g { s.gates.get g with
      flasher := flasherOf (s.gates.get g).state (s.gates.get g).flashFrom s.clock }) := by
  show execFlasherPhase g s = _
  rw [execFlasherPhase, event_of_startUp hs]
  simp only [State.take_cfg, hc, Option.isSome_some, if_true, flasherLevel_eq]
  rfl

end

/-- Settles O31: each timer's row by its own lemma. -/
theorem gateTimers : Obligations.GateTimers := by
  refine fun s g c hs hc => ⟨fun u hm => ⟨fun hdue => ?_, fun hearly => ?_⟩, fun u hw hd hu hrun => ?_,
    exec_flasherPhase hs hc⟩
  · refine ⟨_, (exec_motionLimitExpiry hs hc hm).trans (by rw [if_pos hdue]), ?_⟩
    rw [moved_get, moved_told]
    exact ⟨rfl, rfl, rfl, rfl, rfl, rfl, rfl, rfl, by simp [faults, asked],
      fun h hne => moved_gates_other (s.take _) g h _ hne, rfl⟩
  · rw [exec_motionLimitExpiry hs hc hm, if_neg (by omega)]
  · rw [exec_beamClearTimeExpiry hs hc hw hd hu hrun, entered_lowering_of_waitClear hw]
    rfl

/-! ## What a change of a limit or of the beam does (R50, R62 to R69) -/

/-- What a gate does as one of its limits or its beam becomes active or inactive. -/
def inputMove (s : State) (g : GateId) (c : GateCfg) (r : InputRole) (active : Bool) : Gate × List Instr :=
  let x := s.gates.get g
  match r, active with
  | .gateUp _, true =>
    if x.state = .fault then (x, [])
    else if s.down g = true then faults s g c x .limitConflict
    else if x.state = .raising then opens s g c x
    else if x.state = .retreat then enters s g c x .waitClear
    else (x, [])
  | .gateUp _, false =>
    if x.state = .opened ∨ x.state = .warning ∨ x.state = .waitClear then faults s g c x .displaced else (x, [])
  | .gateDown _, true =>
    if x.state = .fault then (x, [])
    else if s.up g = true then faults s g c x .limitConflict
    else if x.state = .lowering then enters s g c x .closed
    else (x, [])
  | .gateDown _, false => if x.state = .closed then faults s g c x .displaced else (x, [])
  | .beam _, true =>
    if x.state = .lowering then
      if 2 ≤ x.retreats then faults s g c { x with retreats := x.retreats + 1 } .obstructed
      else enters s g c { x with retreats := x.retreats + 1 } .retreat
    else if x.state = .waitClear then ({ x with clear := none }, [])
    else (x, [])
  | .beam _, false =>
    if x.state = .warning then ((s.testLowering g).gates.get g, [])
    else if x.state = .waitClear then ({ x with clear := some s.clock }, [])
    else (x, [])
  | _, _ => (x, [])

section
variable (s : State) (g : GateId) (c : GateCfg)

/-- UP reached (R65, R66, R69). -/
theorem upReached_eq : s.upReached g c = moved s g (inputMove s g c (.gateUp g) true) := by
  unfold State.upReached
  split
  · rename_i hf
    simp [inputMove, hf]
  · rename_i hf
    rw [enterFault_eq s g c, enterOpened_eq, enterWaitClear_eq s g c]
    simp only [inputMove, if_neg hf]
    split_ifs <;> simp

/-- UP lost (R68). -/
theorem upLost_eq : s.upLost g = moved s g (inputMove s g c (.gateUp g) false) := by
  cases hst : (s.gates.get g).state <;> simp [State.upLost, inputMove, hst, enterFault_eq s g c]

/-- DOWN reached (R62, R69). -/
theorem downReached_eq : s.downReached g = moved s g (inputMove s g c (.gateDown g) true) := by
  unfold State.downReached
  split
  · rename_i hf
    simp [inputMove, hf]
  · rename_i hf
    rw [enterFault_eq s g c, enterClosed_eq s g c]
    simp only [inputMove, if_neg hf]
    split_ifs <;> simp

/-- DOWN lost (R68). -/
theorem downLost_eq : s.downLost g = moved s g (inputMove s g c (.gateDown g) false) := by
  by_cases hst : (s.gates.get g).state = .closed <;> simp [State.downLost, inputMove, hst, enterFault_eq s g c]

/-- The beam broken (R63, R67). -/
theorem beamBreaks_eq : s.beamBreaks g = moved s g (inputMove s g c (.beam g) true) := by
  cases hst : (s.gates.get g).state
  case lowering =>
    by_cases hr : 2 ≤ (s.gates.get g).retreats
    · have hthird : 3 ≤ (s.gates.get g).retreats + 1 := by omega
      simp [State.beamBreaks, inputMove, hst, hr, hthird, enterFault_eq _ g c, faults]
    · have hthird : ¬3 ≤ (s.gates.get g).retreats + 1 := by omega
      simp [State.beamBreaks, inputMove, hst, hr, hthird, enterRetreat_eq _ g c, enters]
  case waitClear => simp [State.beamBreaks, inputMove, hst, setGate_eq_moved]
  all_goals simp [State.beamBreaks, inputMove, hst]

/-- The beam clear again (R59, R67). -/
theorem beamClears_eq : s.beamClears g = moved s g (inputMove s g c (.beam g) false) := by
  cases hst : (s.gates.get g).state
  case warning =>
    obtain ⟨y, hy⟩ := testLowering_moves s g
    simp [State.beamClears, inputMove, hst, hy]
  case waitClear => simp [State.beamClears, inputMove, hst, setGate_eq_moved]
  all_goals simp [State.beamClears, inputMove, hst]

end

/-- A change of an input of a fitted gate is a move of that gate (R50). -/
theorem gateInput_eq {s : State} {g : GateId} {c : GateCfg} {r : InputRole} (hc : s.cfg.gates.get g = some c)
    (hr : r = .gateUp g ∨ r = .gateDown g ∨ r = .beam g) (active : Bool) :
    s.gateInput r active = moved s g (inputMove s g c r active) := by
  rcases hr with rfl | rfl | rfl <;> cases active <;> simp only [State.gateInput, hc, Option.isSome_some, if_true]
  · exact upLost_eq s g c
  · exact upReached_eq s g c
  · exact downLost_eq s g c
  · exact downReached_eq s g c
  · exact beamClears_eq s g c
  · exact beamBreaks_eq s g c

section
variable {s : State} {g : GateId} {c : GateCfg} {r : InputRole} {active : Bool}

/-! Each branch of `inputMove`. -/

/-- A gate in FAULT stays as it is (R70). -/
theorem inputMove_of_fault (hf : (s.gates.get g).state = .fault) : inputMove s g c r active = (s.gates.get g, []) := by
  unfold inputMove
  split <;> simp [hf]

theorem inputMove_up_of_raising (hst : (s.gates.get g).state = .raising) (hd : s.down g = false) :
    inputMove s g c (.gateUp g) true = opens s g c (s.gates.get g) := by
  simp [inputMove, hst, hd]

theorem inputMove_up_of_retreat (hst : (s.gates.get g).state = .retreat) (hd : s.down g = false) :
    inputMove s g c (.gateUp g) true = enters s g c (s.gates.get g) .waitClear := by
  simp [inputMove, hst, hd]

theorem inputMove_up_other (hr : (s.gates.get g).state ≠ .raising) (ht : (s.gates.get g).state ≠ .retreat)
    (hd : s.down g = false) : inputMove s g c (.gateUp g) true = (s.gates.get g, []) := by
  simp [inputMove, hr, ht, hd]

theorem inputMove_up_conflict (hf : (s.gates.get g).state ≠ .fault) (hd : s.down g = true) :
    inputMove s g c (.gateUp g) true = faults s g c (s.gates.get g) .limitConflict := by
  simp [inputMove, hf, hd]

theorem inputMove_up_lost
    (hst : (s.gates.get g).state = .opened ∨ (s.gates.get g).state = .warning ∨ (s.gates.get g).state = .waitClear) :
    inputMove s g c (.gateUp g) false = faults s g c (s.gates.get g) .displaced := if_pos hst

theorem inputMove_up_lost_other
    (hst : ¬((s.gates.get g).state = .opened ∨ (s.gates.get g).state = .warning ∨ (s.gates.get g).state = .waitClear)) :
    inputMove s g c (.gateUp g) false = (s.gates.get g, []) := if_neg hst

theorem inputMove_down_of_lowering (hst : (s.gates.get g).state = .lowering) (hu : s.up g = false) :
    inputMove s g c (.gateDown g) true = enters s g c (s.gates.get g) .closed := by
  simp [inputMove, hst, hu]

theorem inputMove_down_other (hst : (s.gates.get g).state ≠ .lowering) (hu : s.up g = false) :
    inputMove s g c (.gateDown g) true = (s.gates.get g, []) := by
  simp [inputMove, hst, hu]

theorem inputMove_down_conflict (hf : (s.gates.get g).state ≠ .fault) (hu : s.up g = true) :
    inputMove s g c (.gateDown g) true = faults s g c (s.gates.get g) .limitConflict := by
  simp [inputMove, hf, hu]

theorem inputMove_down_lost (hst : (s.gates.get g).state = .closed) :
    inputMove s g c (.gateDown g) false = faults s g c (s.gates.get g) .displaced := if_pos hst

theorem inputMove_down_lost_other (hst : (s.gates.get g).state ≠ .closed) :
    inputMove s g c (.gateDown g) false = (s.gates.get g, []) := if_neg hst

theorem inputMove_broken_retreats (hst : (s.gates.get g).state = .lowering) (hfew : (s.gates.get g).retreats < 2) :
    inputMove s g c (.beam g) true =
      enters s g c { s.gates.get g with retreats := (s.gates.get g).retreats + 1 } .retreat := by
  simp [inputMove, hst, hfew]

theorem inputMove_broken_obstructed (hst : (s.gates.get g).state = .lowering) (hmany : 2 ≤ (s.gates.get g).retreats) :
    inputMove s g c (.beam g) true =
      faults s g c { s.gates.get g with retreats := (s.gates.get g).retreats + 1 } .obstructed := by
  simp [inputMove, hst, hmany]

theorem inputMove_broken_of_waitClear (hst : (s.gates.get g).state = .waitClear) :
    inputMove s g c (.beam g) true = ({ s.gates.get g with clear := none }, []) := by
  simp [inputMove, hst]

theorem inputMove_broken_other (hl : (s.gates.get g).state ≠ .lowering) (hw : (s.gates.get g).state ≠ .waitClear) :
    inputMove s g c (.beam g) true = (s.gates.get g, []) := by
  simp [inputMove, hl, hw]

theorem inputMove_clear_of_waitClear (hst : (s.gates.get g).state = .waitClear) :
    inputMove s g c (.beam g) false = ({ s.gates.get g with clear := some s.clock }, []) := by
  simp [inputMove, hst]

/-- The beam clear again in WARNING tests the lowering conditions (R59). -/
theorem inputMove_clear_tests (hc : s.cfg.gates.get g = some c) (hst : (s.gates.get g).state = .warning) :
    ∃ z, inputMove s g c (.beam g) false = (z, []) ∧ LoweringTested s g c (s.beamBroken g) z := by
  obtain ⟨z, hz, htest⟩ := testLowering_eq s g c hc hst
  exact ⟨z, by simp [inputMove, hst, hz], htest⟩

theorem inputMove_clear_other (hl : (s.gates.get g).state ≠ .waitClear) (hw : (s.gates.get g).state ≠ .warning) :
    inputMove s g c (.beam g) false = (s.gates.get g, []) := by
  simp [inputMove, hl, hw]

end

/-! ## The input whose change is taken (R173, R174) -/

/-- The station with one input's record, ATTENTION and the messages given. -/
def withInput (s : State) (i : Nat) (y : Input) (attention : Bool) (told : List Instr) : State :=
  { s with inputs := s.inputs.set i y, attention := attention, told := told }

/-- An element that a search passes over may be replaced by another one. -/
theorem find?_set_of_passed {α : Type} {p : α → Bool} {x y : α} (hx : p x = false) (hy : p y = false) (xs : List α)
    (i : Nat) (hi : xs[i]? = some x) : (xs.set i y).find? p = xs.find? p := by
  induction xs generalizing i with
  | nil => rfl
  | cons z zs ih =>
    cases i with
    | zero =>
      cases hi
      simp [hx, hy]
    | succ i =>
      rw [List.set_cons_succ, List.find?_cons, List.find?_cons, ih i hi]

section
variable {s : State} {g : GateId} {c : GateCfg} {cmd : Instr} {i : Nat} {x y : Input} {active attention : Bool}
  {told : List Instr}

/-- A change of one input leaves the levels of the other roles. -/
theorem inputLevel_withInput {r : InputRole} (hx : s.inputs[i]? = some x) (hy : y.cfg = x.cfg) (hr : x.cfg.role ≠ r) :
    (withInput s i y attention told).inputLevel r = s.inputLevel r := by
  have hinput : (withInput s i y attention told).inputOf r = s.inputOf r :=
    find?_set_of_passed (by simpa using hr) (by simpa [hy] using hr) s.inputs i hx
  rw [State.inputLevel, hinput]
  rfl

@[simp] theorem withInput_gates : (withInput s i y attention told).gates = s.gates := rfl

@[simp] theorem faults_withInput (z : Gate) (cause : GateFault) :
    faults (withInput s i y attention told) g c z cause = faults s g c z cause := rfl

@[simp] theorem opens_withInput (z : Gate) : opens (withInput s i y attention told) g c z = opens s g c z := rfl

/-- Only the entry into WAIT_CLEAR reads an input, the beam (R67). -/
theorem enters_withInput {st : GateState} (z : Gate)
    (h : st = .waitClear → (withInput s i y attention told).beamBroken g = s.beamBroken g) :
    enters (withInput s i y attention told) g c z st = enters s g c z st := by
  cases st with
  | waitClear =>
    simp only [enters, entered, h rfl]
    rfl
  | _ => rfl

/-- A change leaves what a gate does at it to the levels of the other inputs, but for the lowering test, which reads the beam
as it then is. -/
theorem inputMove_withInput (hx : s.inputs[i]? = some x) (hy : y.cfg = x.cfg)
    (h : x.cfg.role = .beam g → active = false → (s.gates.get g).state ≠ .warning)
    (hr : x.cfg.role = .gateUp g ∨ x.cfg.role = .gateDown g ∨ x.cfg.role = .beam g) :
    inputMove (withInput s i y attention told) g c x.cfg.role active = inputMove s g c x.cfg.role active := by
  have hlevel (r : InputRole) (hne : x.cfg.role ≠ r) :
      (withInput s i y attention told).inputLevel r = s.inputLevel r := inputLevel_withInput hx hy hne
  rcases hr with hr | hr | hr <;> rw [hr] <;> rw [hr] at hlevel h <;> cases active
  · rfl
  · have hdown : (withInput s i y attention told).down g = s.down g := hlevel (.gateDown g) nofun
    have hbeam : (withInput s i y attention told).beamBroken g = s.beamBroken g := hlevel (.beam g) nofun
    simp only [inputMove, withInput_gates, hdown, faults_withInput, opens_withInput, enters_withInput _ fun _ => hbeam]
  · rfl
  · have hup : (withInput s i y attention told).up g = s.up g := hlevel (.gateUp g) nofun
    simp only [inputMove, withInput_gates, hup, faults_withInput]
    rfl
  · simp only [inputMove, withInput_gates, h rfl rfl, if_false]
    rfl
  · rfl

/-! ## The commands by which a change is taken (R173 to R175, R177) -/

theorem withInput_take : withInput (s.take cmd) i y attention told = withInput s i y attention told := rfl

/-- A change that is taken makes the terminal's level the debounced one and tells the owner, a gate. -/
theorem takeChange_gate (hr : x.cfg.role = .gateUp g ∨ x.cfg.role = .gateDown g ∨ x.cfg.role = .beam g) :
    ∃ attention, s.takeChange i x =
      (withInput s i x.taken attention s.told).gateInput x.cfg.role x.terminal := by
  refine ⟨(s.setInput i x.taken).attentionLevel, ?_⟩
  unfold State.takeChange State.tellOwner
  rcases hr with hr | hr | hr <;> rw [hr] <;> rfl

theorem exec_terminalLevelChange_taken (hs : s.startUp = .running) (hx : s.inputs[i]? = some x)
    (hnow : x.cfg.debounce = 0) (hterm : x.terminal ≠ active) (hdeb : x.debounced ≠ active) :
    exec (.terminalLevelChange i active) s = .next (s.takeChange i { x with terminal := active }) := by
  have hrun : s.running = true := by simp [State.running, hs]
  show execTerminalLevelChange i active s = _
  simp only [execTerminalLevelChange, hx, hrun, if_true, State.terminalChange, if_neg hterm, if_neg hdeb.symm,
    if_pos hnow]

theorem exec_debounceExpiry_taken {u : Nat} (hs : s.startUp = .running) (hx : s.inputs[i]? = some x)
    (htimer : x.timer = some u) (hdue : u + x.cfg.debounce * 1000 ≤ s.clock) :
    exec (.debounceExpiry i) s = .next ((s.take (.debounceExpiry i)).takeChange i x) := by
  have hrun : x.timerRun s.clock = true := by simp [Input.timerRun, htimer, hasRun_iff, debounceUs, hdue]
  show execDebounceExpiry i s = _
  rw [execDebounceExpiry, event_of_startUp hs]
  simp only [State.take_inputs, State.take_clock, hx, hrun, if_true]

/-- Both commands: the input's record, ATTENTION, and the gate told. -/
theorem exec_input_change (hs : s.startUp = .running) (hx : s.inputs[i]? = some x)
    (hcmd : (cmd = .terminalLevelChange i active ∧ x.cfg.debounce = 0 ∧ x.terminal ≠ active ∧ x.debounced ≠ active) ∨
      (cmd = .debounceExpiry i ∧ x.terminal = active ∧ ∃ u, x.timer = some u ∧ u + x.cfg.debounce * 1000 ≤ s.clock))
    (hr : x.cfg.role = .gateUp g ∨ x.cfg.role = .gateDown g ∨ x.cfg.role = .beam g) :
    ∃ attention told,
      exec cmd s = .next ((withInput s i { x with terminal := active }.taken attention told).gateInput x.cfg.role active) ∧
      ((cmd = .terminalLevelChange i active ∧ told = s.told) ∨
        (cmd = .debounceExpiry i ∧ told = (s.take (.debounceExpiry i)).told)) := by
  rcases hcmd with ⟨rfl, hnow, hterm, hdeb⟩ | ⟨rfl, rfl, u, htimer, hdue⟩
  · obtain ⟨attention, htake⟩ := takeChange_gate (s := s) (i := i) (x := { x with terminal := active }) hr
    exact ⟨attention, s.told, (exec_terminalLevelChange_taken hs hx hnow hterm hdeb).trans (congrArg _ htake),
      .inl ⟨rfl, rfl⟩⟩
  · obtain ⟨attention, htake⟩ := takeChange_gate (s := s.take (.debounceExpiry i)) (i := i) hr
    rw [withInput_take] at htake
    exact ⟨attention, _, (exec_debounceExpiry_taken hs hx htimer hdue).trans (congrArg _ htake), .inr ⟨rfl, rfl⟩⟩

end

/-- Settles O32: a taken change is one move of its gate, `inputMove`, each clause one of its branches. -/
theorem gateLimitEvents : Obligations.GateLimitEvents := by
  intro s cmd i x active g c hs hx hc hcmd hrole
  obtain ⟨attention, told, hexec, htold⟩ := exec_input_change hs hx hcmd hrole
  obtain ⟨u, hu⟩ : ∃ u, u = withInput s i { x with terminal := active }.taken attention told := ⟨_, rfl⟩
  have hgates : u.gates = s.gates := by rw [hu]; rfl
  have hcfg : u.cfg.gates.get g = some c := by rw [hu]; exact hc
  have hsame (h : x.cfg.role = .beam g → active = false → (s.gates.get g).state ≠ .warning) :
      inputMove u g c x.cfg.role active = inputMove s g c x.cfg.role active := by
    rw [hu]
    exact inputMove_withInput hx rfl h hrole
  rw [← hu, gateInput_eq hcfg hrole] at hexec
  refine ⟨_, (inputMove u g c x.cfg.role active).2, hexec, ?told, ?askNothing, ?_⟩
  case told => rcases htold with ⟨rfl, rfl⟩ | ⟨rfl, rfl⟩ <;> rw [hu] <;> rfl
  case askNothing => exact fun hf => by rw [inputMove_of_fault (by rwa [hgates])]
  rw [moved_get]
  refine ⟨?upReached, ?upConflict, ?upLost, ?downReached, ?downConflict, ?downLost, ?beamBroken, ?beamClear, ?faultStays,
    ?others, ?frame⟩
  case upReached =>
    rintro hr rfl hdown
    rw [hsame (by simp [hr]), hr]
    refine ⟨fun hst => ?_, fun hst => inputMove_up_of_retreat hst hdown, fun hnr hnt => inputMove_up_other hnr hnt hdown⟩
    obtain ⟨-, -, hstate⟩ := opens_fst s g c (s.gates.get g)
    rw [inputMove_up_of_raising hst hdown]
    exact ⟨hstate, rfl⟩
  case upConflict =>
    rintro hr rfl hdown hf
    rw [hsame (by simp [hr]), hr, inputMove_up_conflict hf hdown]
    exact ⟨rfl, rfl⟩
  case upLost =>
    rintro hr rfl
    rw [hsame (by simp [hr]), hr]
    split
    next hst => rw [inputMove_up_lost hst]; exact ⟨rfl, rfl⟩
    next hst => exact inputMove_up_lost_other hst
  case downReached =>
    rintro hr rfl hup
    rw [hsame (by simp [hr]), hr]
    split
    next hst => rw [inputMove_down_of_lowering hst hup]; exact ⟨rfl, rfl⟩
    next hst => exact inputMove_down_other hst hup
  case downConflict =>
    rintro hr rfl hup hf
    rw [hsame (by simp [hr]), hr, inputMove_down_conflict hf hup]
    exact ⟨rfl, rfl⟩
  case downLost =>
    rintro hr rfl
    rw [hsame (by simp [hr]), hr]
    split
    next hst => rw [inputMove_down_lost hst]; exact ⟨rfl, rfl⟩
    next hst => exact inputMove_down_lost_other hst
  case beamBroken =>
    rintro hr rfl
    rw [hsame (by simp), hr]
    refine ⟨fun hst hfew => ?_, fun hst hmany => ?_, inputMove_broken_of_waitClear, inputMove_broken_other⟩
    · rw [inputMove_broken_retreats hst hfew]
      exact ⟨rfl, rfl, rfl, rfl, rfl⟩
    · rw [inputMove_broken_obstructed hst hmany]
      exact ⟨rfl, rfl⟩
  case beamClear =>
    rintro hr rfl
    refine ⟨fun hst => ?_, fun hst => ?_, fun hnl hnw => ?_⟩
    · rw [hsame (by simp [hst]), hr, inputMove_clear_of_waitClear hst]
    · obtain ⟨z, hz, htest⟩ := inputMove_clear_tests hcfg (by rwa [hgates])
      rw [hr, hz]
      rw [hu] at htest ⊢
      exact ⟨rfl, htest⟩
    · rw [hsame (by simp [hnw]), hr, inputMove_clear_other hnl hnw]
  case faultStays => exact fun hf => by rw [inputMove_of_fault (by rwa [hgates]), hgates]
  case others => exact fun h hne => by rw [moved_gates_other u g h _ hne, hgates]
  case frame => rw [hu]; rfl

end Sys2Proof.Gates

/-! Chapter 4: the order of a display stack (R81, R82). -/
namespace Sys2Proof.Display

open Machine Safety

/-! ## What keeps a stack in order (R81, R82) -/

section
variable {now : Nat} {xs : List Claim}

theorem stackSound_nil : StackSound now [] := by simp [StackSound]

/-- Claims that stand in order stay so as the clock runs on. -/
theorem stackSound_mono {later : Nat} (h : StackSound now xs) (hle : now ≤ later) : StackSound later xs := by
  obtain ⟨horder, hids, hpast⟩ := h
  exact ⟨horder, hids, fun c hc => (hpast c hc).trans hle⟩

/-- Claims that leave a stack leave it in order. -/
theorem stackSound_filter (h : StackSound now xs) (keep : Claim → Bool) : StackSound now (xs.filter keep) := by
  obtain ⟨horder, hids, hpast⟩ := h
  exact ⟨horder.filter keep, hids.sublist (List.filter_sublist.map _), fun c hc => hpast c (List.mem_of_mem_filter hc)⟩

theorem stackSound_withdraw (h : StackSound now xs) (id : ClaimId) : StackSound now (withdrawClaim id xs) := stackSound_filter h _

/-- A claim placed now is inserted at its place in the order. -/
theorem insertClaim_pairwise (c : Claim) (hc : c.placed = now) (hpast : ∀ x ∈ xs, x.placed ≤ now)
    (horder : xs.Pairwise Before) : (insertClaim c xs).Pairwise Before := by
  induction xs with
  | nil => simp [insertClaim]
  | cons x xs ih =>
    obtain ⟨hx, hxs⟩ := List.pairwise_cons.mp horder
    have hpast' : ∀ y ∈ xs, y.placed ≤ now := fun y hy => hpast y (List.mem_cons_of_mem x hy)
    have hxpast : x.placed ≤ now := hpast x List.mem_cons_self
    unfold insertClaim
    split
    next hle =>
      refine List.pairwise_cons.mpr ⟨fun y hy => ?_, horder⟩
      rcases List.mem_cons.mp hy with rfl | hy
      · unfold Before
        omega
      · have hxy := hx y hy
        have hypast := hpast' y hy
        unfold Before at hxy ⊢
        omega
    next hlt =>
      refine List.pairwise_cons.mpr ⟨fun y hy => ?_, ih hpast' hxs⟩
      rcases (mem_insertClaim ..).mp hy with rfl | hy
      · unfold Before
        omega
      · exact hx y hy

/-- A claim of a new identity placed now leaves the stack in order. -/
theorem stackSound_insert {c : Claim} (h : StackSound now xs) (hc : c.placed = now) (hnew : ∀ x ∈ xs, x.id ≠ c.id) :
    StackSound now (insertClaim c xs) := by
  obtain ⟨horder, hids, hpast⟩ := h
  refine ⟨insertClaim_pairwise c hc hpast horder, ?_, fun x hx => ?_⟩
  · rw [((insertClaim_perm c xs).map (·.id)).nodup_iff, List.map_cons, List.nodup_cons]
    refine ⟨fun hmem => ?_, hids⟩
    obtain ⟨x, hx, hid⟩ := List.mem_map.mp hmem
    exact hnew x hx hid
  · rcases (mem_insertClaim ..).mp hx with rfl | hx
    · exact hc.le
    · exact hpast x hx

/-- New levels and end times leave the order: it rests on identities, priorities and placement times. -/
theorem stackSound_map {f : Claim → Claim} (h : StackSound now xs) (hid : ∀ x, (f x).id = x.id)
    (hprio : ∀ x, (f x).priority = x.priority) (hplaced : ∀ x, (f x).placed = x.placed) : StackSound now (xs.map f) := by
  obtain ⟨horder, hids, hpast⟩ := h
  refine ⟨?_, ?_, ?_⟩
  · simp only [List.pairwise_map, Before, hprio, hplaced]
    exact horder
  · simpa only [List.map_map, Function.comp_def, hid] using hids
  · simpa only [List.forall_mem_map, hplaced] using hpast

/-- A claim placed now leaves the stack in order (R82). -/
theorem stackSound_place {c : Claim} (h : StackSound now xs) (hc : c.placed = now) : StackSound now (placeClaim c xs) := by
  unfold placeClaim
  split
  next old hold =>
    split
    · exact stackSound_map h (fun x => by split <;> rfl) (fun x => by split <;> rfl) (fun x => by split <;> rfl)
    · exact stackSound_insert (stackSound_withdraw h c.id) hc (withdrawClaim_gone c.id xs)
  next hnone =>
    exact stackSound_insert h hc fun x hx => by simpa using List.find?_eq_none.mp hnone x hx

theorem stackSound_placeOrWithdraw {id : ClaimId} {c : Option Claim} (h : StackSound now xs)
    (hc : ∀ x, c = some x → x.placed = now) : StackSound now (placeOrWithdraw id c xs) := by
  cases c with
  | none => exact stackSound_withdraw h id
  | some c => exact stackSound_place h (hc c rfl)

/-- Changes made one after the other leave a stack in order where each of them does. -/
theorem stackSound_foldl {α : Type} {f : List Claim → α → List Claim} (h : StackSound now xs)
    (hf : ∀ ys a, StackSound now ys → StackSound now (f ys a)) (as : List α) : StackSound now (as.foldl f xs) := by
  induction as generalizing xs with
  | nil => exact h
  | cons a as ih => exact ih (hf xs a h)

end
end Sys2Proof.Display

/-! Chapter 4: a change to the stacks of all panels, and the claims of one identity in it (R82, R83). -/
namespace Sys2Proof.Display

open Machine Safety Orders

/-! ## A change to the stacks (R82, R83) -/

section
variable (s : State) (p : Panel) (f : List Claim → List Claim) (F : Panel → List Claim → List Claim)

/-- The stack that a change leaves a panel: a configured panel's claims changed, and the text of a lead that changes handed
over. -/
def changedStack : Stack :=
  if (s.cfg.panels.get p).isSome then
    ⟨f (s.displays.get p).claims,
      if leadChanged (s.displays.get p).claims (f (s.displays.get p).claims) then
        (f (s.displays.get p).claims).head?.map fun c => s.messageText c.descriptor
      else (s.displays.get p).handed⟩
  else s.displays.get p

/-- What the Panel Driver is told of a change to its panel's stack. -/
def changeTells : List Instr :=
  if leadChanged (s.displays.get p).claims (changedStack s p f).claims then
    [.renderTrigger p ((changedStack s p f).claims.head?.map s.leadOf)]
  else []

@[simp] theorem displays_set_get (x : PerPanel Stack) : x.set p (x.get p) = x := by cases p <;> rfl

/-- One change to one stack. -/
theorem changeStack_eq : s.changeStack p f = (s.setStack p (changedStack s p f)).tell (changeTells s p f) := by
  unfold State.changeStack changeTells changedStack
  split
  · dsimp only
    split
    · simp [Function.comp_def, State.leadOf]
    · simp [State.tell, State.setStack]
  · have hsame : leadChanged (s.displays.get p).claims (s.displays.get p).claims = false :=
      (leadChanged_eq_false_iff ..).mpr rfl
    simp [hsame, State.setStack, State.tell]

/-- One change to the stacks of all panels. -/
theorem changeStacks_eq : s.changeStacks F = { s with
    displays := ⟨changedStack s .a (F .a), changedStack s .b (F .b), changedStack s .c (F .c)⟩
    told := s.told ++ [Panel.a, .b, .c].flatMap fun p => changeTells s p (F p) } := by
  simp only [State.changeStacks, Panel.all, List.foldl_cons, List.foldl_nil, changeStack_eq, List.flatMap_cons,
    List.flatMap_nil, List.append_nil, ← List.append_assoc]
  rfl

theorem changeStacks_get : (s.changeStacks F).displays.get p = changedStack s p (F p) := by
  rw [changeStacks_eq]
  cases p <;> rfl

variable {s p F}

/-- The claims of a configured panel are the changed ones. -/
theorem changeStacks_claims (h : (s.cfg.panels.get p).isSome = true) :
    ((s.changeStacks F).displays.get p).claims = F p (s.displays.get p).claims := by
  simp only [changeStacks_get, changedStack, if_pos h]

/-- A panel that is not configured has no stack to change. -/
theorem changeStacks_unfitted (h : s.cfg.panels.get p = none) : (s.changeStacks F).displays.get p = s.displays.get p := by
  simp [changeStacks_get, changedStack, h]

/-- A change that leaves a panel's claims leaves its stack. -/
theorem changeStacks_same (h : F p (s.displays.get p).claims = (s.displays.get p).claims) :
    (s.changeStacks F).displays.get p = s.displays.get p := by
  have hsame : leadChanged (s.displays.get p).claims (s.displays.get p).claims = false :=
    (leadChanged_eq_false_iff ..).mpr rfl
  simp [changeStacks_get, changedStack, h, hsame]

variable (s F)

/-- A change to the stacks touches the stacks and the messages only. -/
theorem changeStacks_frame : { s.changeStacks F with displays := s.displays, told := s.told } = s := by
  rw [changeStacks_eq]

theorem leadTells_changeStacks : leadTells s (s.changeStacks F) p = changeTells s p (F p) := by
  rw [leadTells_eq, changeStacks_get, changeTells]

/-- A change to the stacks tells the leads as R83 gives. -/
theorem changeStacks_leadsTold : LeadsTold s (s.changeStacks F) s.told := by
  refine ⟨?_, fun p => ?_⟩
  · simp only [leadTells_changeStacks, List.flatMap_cons, List.flatMap_nil]
    rw [changeStacks_eq]
    rfl
  · rw [leadTells_changeStacks, changeStacks_get, changeTells, changedStack]
    by_cases hfit : (s.cfg.panels.get p).isSome = true
    · simp only [if_pos hfit]
      cases hl : leadChanged (s.displays.get p).claims (F p (s.displays.get p).claims) <;> simp
    · have hsame : leadChanged (s.displays.get p).claims (s.displays.get p).claims = false :=
        (leadChanged_eq_false_iff ..).mpr rfl
      simp [hfit, hsame]

/-- What a row leaves that changes the stacks of a running station once its message is taken. -/
theorem stacks_row {F : Panel → List Claim → List Claim} (cmd : Instr) :
    LeadsTold s ((s.take cmd).changeStacks F) (s.take cmd).told ∧
      { (s.take cmd).changeStacks F with displays := s.displays, told := s.told } = s := by
  obtain ⟨htold, hhanded⟩ := changeStacks_leadsTold (s.take cmd) F
  exact ⟨⟨htold, hhanded⟩, congrArg (fun u : State => { u with told := s.told }) (changeStacks_frame (s.take cmd) F)⟩

end

/-! ## The claims of an identity (R82) -/

section
variable {ids : List ClaimId} {id : ClaimId} {old mid new : List Claim} {now d prio : Nat}

theorem sameBut_refl : SameBut ids old old := rfl

theorem sameBut_trans (h : SameBut ids old mid) (h' : SameBut ids mid new) : SameBut ids old new := h'.trans h

/-- What is the same but for some identities is the same but for more of them. -/
theorem sameBut_mono {more : List ClaimId} (h : SameBut ids old new) (hsub : ids ⊆ more) : SameBut more old new := by
  have hboth (c : Claim) : (!more.contains c.id && !ids.contains c.id) = !more.contains c.id := by
    by_cases hc : c.id ∈ ids
    · simp [hc, hsub hc]
    · simp [hc]
  have hcut (xs : List Claim) : xs.filter (fun c => !more.contains c.id) =
      (xs.filter fun c => !ids.contains c.id).filter fun c => !more.contains c.id := by
    rw [List.filter_filter]
    exact List.filter_congr fun c _ => (hboth c).symm
  unfold SameBut
  rw [hcut new, hcut old, h]

/-- Stacks that are the same but for some identities hold the same claims of any other. -/
theorem sameBut_filter (h : SameBut ids old new) (hid : id ∉ ids) :
    new.filter (fun c => c.id = id) = old.filter fun c => c.id = id := by
  have hboth (c : Claim) : (decide (c.id = id) && !ids.contains c.id) = decide (c.id = id) := by
    by_cases hc : c.id = id
    · simp [hc, hid]
    · simp [hc]
  have hcut (xs : List Claim) : xs.filter (fun c => c.id = id) =
      (xs.filter fun c => !ids.contains c.id).filter fun c => c.id = id := by
    rw [List.filter_filter]
    exact List.filter_congr fun c _ => (hboth c).symm
  rw [hcut new, hcut old, h]

theorem sameBut_singleton_iff :
    SameBut [id] old new ↔ new.filter (fun c => c.id ≠ id) = old.filter fun c => c.id ≠ id := by
  simp only [SameBut, List.contains_cons, List.contains_nil, Bool.or_false]
  have h : (fun c : Claim => !(c.id == id)) = fun c => decide (c.id ≠ id) := by
    funext c
    by_cases hc : c.id = id <;> simp [hc]
  rw [h]

theorem placeClaim_sameBut (c : Claim) (xs : List Claim) : SameBut [c.id] xs (placeClaim c xs) :=
  sameBut_singleton_iff.mpr (placeClaim_others c xs)

theorem withdrawClaim_sameBut (id : ClaimId) (xs : List Claim) : SameBut [id] xs (withdrawClaim id xs) :=
  sameBut_singleton_iff.mpr (withdrawClaim_others id xs)

theorem placeOrWithdraw_sameBut (c : Option Claim) (xs : List Claim) (hc : ∀ x, c = some x → x.id = id) :
    SameBut [id] xs (placeOrWithdraw id c xs) := by
  cases c with
  | none => exact withdrawClaim_sameBut id xs
  | some x =>
    rw [← hc x rfl]
    exact placeClaim_sameBut x xs

/-- The claims of an identity decide what stands placed. -/
theorem placed_congr {old' new' : List Claim} (h : Placed now old new id d prio)
    (hold : old'.filter (fun c => c.id = id) = old.filter fun c => c.id = id)
    (hnew : new'.filter (fun c => c.id = id) = new.filter fun c => c.id = id) : Placed now old' new' id d prio := by
  obtain ⟨c, hc, hid, hdesc, hprio, hwhen⟩ := h
  have hmem : c ∈ new'.filter fun c => c.id = id := by
    rw [hnew]
    exact List.mem_filter.mpr ⟨hc, by simpa using hid⟩
  refine ⟨c, List.mem_of_mem_filter hmem, hid, hdesc, hprio, ?_⟩
  rwa [← List.head?_filter, hold, List.head?_filter]

/-- The claims of an identity decide whether there is one. -/
theorem absent_iff : Absent new id ↔ new.filter (fun c => c.id = id) = [] := by
  simp [Absent, List.filter_eq_nil_iff]

theorem absent_congr {new' : List Claim} (h : Absent new id)
    (hnew : new'.filter (fun c => c.id = id) = new.filter fun c => c.id = id) : Absent new' id := by
  rw [absent_iff] at h ⊢
  rw [hnew, h]

/-- A claim that is placed stands placed (R82). -/
theorem placeClaim_placed (c : Claim) (xs : List Claim) :
    Placed c.placed xs (placeClaim c xs) c.id c.descriptor c.priority := by
  obtain ⟨hfields, hwhen⟩ := placedClaim_eq c xs
  exact ⟨placedClaim c xs, placedClaim_mem c xs, by rw [hfields], by rw [hfields], by rw [hfields], hwhen⟩

/-! ## Several identities in one change -/

section
variable {α : Type} {name : α → ClaimId} {f : List Claim → α → List Claim} {as : List α}

/-- Changes that each touch one identity touch those identities only. -/
theorem foldl_sameBut (hf : ∀ xs a, SameBut [name a] xs (f xs a)) (xs : List Claim) :
    SameBut (as.map name) xs (as.foldl f xs) := by
  induction as generalizing xs with
  | nil => exact sameBut_refl
  | cons a as ih =>
    refine sameBut_trans (sameBut_mono (hf xs a) ?_) (sameBut_mono (ih (f xs a)) ?_)
    · simp
    · simp

/-- Of changes that each touch one identity, an identity's own decides what the stack holds of it. -/
theorem foldl_at (hf : ∀ xs a, SameBut [name a] xs (f xs a)) (hnodup : (as.map name).Nodup) {a : α} (ha : a ∈ as)
    (xs : List Claim) : ∃ ys, ys.filter (fun c => c.id = name a) = xs.filter (fun c => c.id = name a) ∧
      (as.foldl f xs).filter (fun c => c.id = name a) = (f ys a).filter fun c => c.id = name a := by
  obtain ⟨before, after, rfl⟩ := List.append_of_mem ha
  rw [List.map_append, List.map_cons, List.nodup_append] at hnodup
  obtain ⟨-, hafter, hapart⟩ := hnodup
  refine ⟨before.foldl f xs, sameBut_filter (foldl_sameBut hf xs) ?_, ?_⟩
  · exact fun hmem => hapart _ hmem _ List.mem_cons_self rfl
  · rw [List.foldl_append, List.foldl_cons]
    exact sameBut_filter (foldl_sameBut hf _) (List.nodup_cons.mp hafter).1

/-- An identity that none of the changes touches keeps its claims. -/
theorem foldl_filter_other (hf : ∀ xs a, SameBut [name a] xs (f xs a)) (hid : id ∉ as.map name) (xs : List Claim) :
    (as.foldl f xs).filter (fun c => c.id = id) = xs.filter fun c => c.id = id :=
  sameBut_filter (foldl_sameBut hf xs) hid

end
end
end Sys2Proof.Display

/-! Chapters 1 and 3: what the operations of the Notice Engine and of a gate write. -/
namespace Sys2Proof.Display

open Machine Safety Orders

/-! ## What the Notice Engine writes (R3 to R29) -/

/-- Two states are the same but for the Notice Engine's own record, the line and the messages. -/
def EngineWrites (s t : State) : Prop := { t with engine := s.engine, line := s.line, told := s.told } = s

section
variable {s t u : State}

theorem EngineWrites.refl (s : State) : EngineWrites s s := rfl

theorem EngineWrites.trans (h : EngineWrites s t) (h' : EngineWrites t u) : EngineWrites s u := by
  have hu := congrArg (fun v : State => { v with engine := s.engine, line := s.line, told := s.told }) h'
  exact hu.trans h

/-- An operation done for each item of a list writes what it writes for one. -/
theorem EngineWrites.foldl {α : Type} {f : State → α → State} (hf : ∀ s x, EngineWrites s (f s x)) (xs : List α)
    (s : State) : EngineWrites s (xs.foldl f s) := by
  induction xs generalizing s with
  | nil => exact .refl s
  | cons x xs ih => exact (hf s x).trans (ih (f s x))

variable (s)

theorem setEngine_writes (e : Engine) : EngineWrites s { s with engine := e } := rfl

theorem setLine_writes (l : Line) : EngineWrites s (s.setLine l) := rfl

theorem setSlot_writes (i : Nat) (r : Option NoticeRecord) : EngineWrites s (s.setSlot i r) := rfl

theorem tell_writes (cs : List Instr) : EngineWrites s (s.tell cs) := rfl

theorem setPending_writes (ks : List NoticeKey) : EngineWrites s (s.setPending ks) := by
  unfold State.setPending
  split <;> rfl

theorem commit_writes : EngineWrites s s.commit := by
  have h := congrArg (fun u : State => { u with line := s.line }) s.commit_frame
  exact h

theorem report_writes (b a : Option Notice) (c : ChangeCause) : EngineWrites s (s.report b a c) := by
  have h := congrArg (fun u : State => { u with engine := s.engine, line := s.line }) (s.report_frame b a c)
  exact h

theorem requestFrame_writes (i : Nat) (purpose : Purpose) (hop : Nat) :
    EngineWrites s (s.requestFrame i purpose hop) := by
  have h := congrArg (fun u : State => { u with told := s.told }) (s.requestFrame_frame i purpose hop)
  exact h

theorem leave_writes (i : Nat) (cause : ChangeCause) : EngineWrites s (s.leave i cause) := by
  rcases s.leave_cases i cause with ⟨-, h⟩ | ⟨r, told, -, h⟩ <;> rw [h] <;> rfl

theorem enter_writes (i : Nat) (r : NoticeRecord) (cause : ChangeCause) : EngineWrites s (s.enter i r cause) :=
  ((leave_writes s i .eviction).trans (setSlot_writes _ i _)).trans (report_writes ..)

theorem rewrite_writes (i : Nat) (old new : NoticeRecord) (cause : ChangeCause) :
    EngineWrites s (s.rewrite i old new cause) := (setSlot_writes s i _).trans (report_writes ..)

theorem relay_writes (i hop : Nat) : EngineWrites s (s.relay i hop) := by
  unfold State.relay
  split
  · exact .refl s
  · exact requestFrame_writes ..

/-! ### A notice frame taken (R6 to R12) -/

theorem newCopy_writes (n : Notice) (remaining hop : Nat) : EngineWrites s (s.newCopy n remaining hop) := by
  unfold State.newCopy
  split
  · exact ((enter_writes ..).trans (relay_writes ..)).trans (commit_writes _)
  · exact tell_writes ..

theorem replaceCopy_writes (i : Nat) (r : NoticeRecord) (n : Notice) (remaining hop : Nat) :
    EngineWrites s (s.replaceCopy i r n remaining hop) :=
  ((rewrite_writes ..).trans (relay_writes ..)).trans (commit_writes _)

theorem duplicateCopy_writes (i : Nat) (r : NoticeRecord) (hop : Nat) : EngineWrites s (s.duplicateCopy i r hop) := by
  unfold State.duplicateCopy
  dsimp only
  split <;> rfl

theorem staleCopy_writes (i : Nat) (r : NoticeRecord) : EngineWrites s (s.staleCopy i r) := by
  unfold State.staleCopy
  dsimp only
  split <;> rfl

theorem goodCopy_writes (n : Notice) (remaining hop : Nat) : EngineWrites s (s.goodCopy n remaining hop) := by
  unfold State.goodCopy
  repeat' split
  · exact newCopy_writes ..
  · exact .refl s
  · exact replaceCopy_writes ..
  · exact duplicateCopy_writes ..
  · exact staleCopy_writes ..

theorem takeNoticeFrame_writes : EngineWrites s s.takeNoticeFrame := by
  unfold State.takeNoticeFrame
  split
  · exact .refl s
  · dsimp only
    split
    · rfl
    · exact (setLine_writes s _).trans (goodCopy_writes ..)

/-! ### Expiry, purge, refresh and catch-up (R19, R20, R26 to R29) -/

theorem expireDue_writes : EngineWrites s s.expireDue := by
  unfold State.expireDue
  split
  · exact .refl s
  · exact (EngineWrites.foldl (fun s x => (rewrite_writes ..).trans (setLine_writes ..)) _ s).trans (commit_writes _)

theorem purgeDue_writes : EngineWrites s s.purgeDue := by
  unfold State.purgeDue
  split
  · exact .refl s
  · exact (EngineWrites.foldl (fun s x => leave_writes ..) _ s).trans (commit_writes _)

theorem refreshSlot_writes (i : Nat) : EngineWrites s (s.refreshSlot i) := by
  unfold State.refreshSlot
  split
  · exact ((requestFrame_writes ..).trans (setSlot_writes ..)).trans (setPending_writes ..)
  · exact .refl s

theorem refresh_writes (now : Nat) : EngineWrites s (s.refresh now) := by
  unfold State.refresh
  dsimp only
  split
  · rfl
  · split
    · exact (setEngine_writes s _).trans (refreshSlot_writes ..)
    · rfl

theorem setCatchUp_writes : EngineWrites s s.setCatchUp := by
  unfold State.setCatchUp
  dsimp only
  split
  · exact setPending_writes ..
  · split <;> rfl

/-! ### Notices of this station (R21 to R24) -/

variable {s}

theorem issueNotice_writes {q : IssueRequest} {named : List NoticeKey} {cause : ChangeCause} {k : NoticeKey}
    (h : s.issueNotice q named cause = some (t, k)) : EngineWrites s t := by
  unfold State.issueNotice at h
  split at h
  · cases h
  · cases h
    exact ((setEngine_writes s _).trans (enter_writes ..)).trans (requestFrame_writes ..)

variable (s)

theorem amendSlot_writes (i level : Nat) (kind : NoticeKind) (first last remaining : Nat) (message : Option Nat) :
    EngineWrites s (s.amendSlot i level kind first last remaining message) := by
  unfold State.amendSlot
  split
  · exact (rewrite_writes ..).trans (requestFrame_writes ..)
  · exact .refl s

theorem liftSlot_writes (i : Nat) (cause : ChangeCause) : EngineWrites s (s.liftSlot i cause) := by
  unfold State.liftSlot
  split
  · exact (rewrite_writes ..).trans (requestFrame_writes ..)
  · exact .refl s

theorem applyNotice_writes (e : Nat) (named : List NoticeKey) (a : OrderAction) :
    EngineWrites s (s.applyNotice e named a).1 := by
  unfold State.applyNotice
  split
  case h_1 =>
    repeat' split
    · exact issueNotice_writes ‹_›
    · exact .refl s
    · exact .refl s
  case h_2 =>
    split
    · exact amendSlot_writes ..
    · exact .refl s
  case h_3 =>
    split
    · exact liftSlot_writes ..
    · exact .refl s
  all_goals exact .refl s

theorem applyNotices_writes (e : Nat) (named : List NoticeKey) (acts : List OrderAction) :
    EngineWrites s (s.applyNotices e named acts).1 := by
  induction acts generalizing s with
  | nil => exact .refl s
  | cons a rest ih => exact (applyNotice_writes s e named a).trans (ih _)

end

/-! ## What a gate writes (R49 to R73) -/

/-- Two states are the same but for moves of the gates. -/
def GateWrites (s t : State) : Prop := { t with gates := s.gates, told := s.told } = s

section
variable {s t u : State} {g : GateId}

theorem GateWrites.refl (s : State) : GateWrites s s := rfl

theorem GateWrites.trans (h : GateWrites s t) (h' : GateWrites t u) : GateWrites s u := by
  have hu := congrArg (fun v : State => { v with gates := s.gates, told := s.told }) h'
  exact hu.trans h

theorem GateWrites.foldl {α : Type} {f : State → α → State} (hf : ∀ s x, GateWrites s (f s x)) (xs : List α)
    (s : State) : GateWrites s (xs.foldl f s) := by
  induction xs generalizing s with
  | nil => exact .refl s
  | cons x xs ih => exact (hf s x).trans (ih (f s x))

/-- A move of a gate writes its record and the messages. -/
theorem moved_writes (m : Gate × List Instr) (h : t = moved s g m) : GateWrites s t := by
  rw [h]
  rfl

variable (s g)

theorem reevaluate_writes : GateWrites s (s.reevaluate g) := by
  cases hc : s.cfg.gates.get g with
  | none => simp only [State.reevaluate, hc, GateWrites.refl]
  | some c => exact moved_writes _ (reevaluate_eq s g c hc)

theorem testLowering_writes : GateWrites s (s.testLowering g) := by
  obtain ⟨y, hy⟩ := Gates.testLowering_moves s g
  exact moved_writes _ hy

theorem testForPanel_writes (p : Panel) : GateWrites s (s.testForPanel p g) := by
  unfold State.testForPanel
  repeat' split
  · exact testLowering_writes s g
  · exact .refl s
  · exact .refl s

theorem releaseSettle_writes : GateWrites s (s.releaseSettle g) :=
  GateWrites.trans (t := s.setGate g { s.gates.get g with settleHold := false }) rfl (reevaluate_writes ..)

theorem recoverGate_writes (c : GateCfg) : GateWrites s (s.recoverGate g c) := by
  by_cases hf : (s.gates.get g).state = .fault
  · exact moved_writes _ (recoverGate_eq c hf)
  · simp only [State.recoverGate, if_neg hf, GateWrites.refl]

/-- A change of a limit or of the beam moves the gate it is told to. -/
theorem gateInput_writes (r : InputRole) (active : Bool) : GateWrites s (s.gateInput r active) := by
  have hgate (g : GateId) (hr : r = .gateUp g ∨ r = .gateDown g ∨ r = .beam g) :
      GateWrites s (s.gateInput r active) := by
    cases hc : s.cfg.gates.get g with
    | none =>
      rcases hr with rfl | rfl | rfl <;> simp [State.gateInput, hc, GateWrites.refl]
    | some c => exact moved_writes _ (Gates.gateInput_eq hc hr active)
  cases r with
  | gateUp g => exact hgate g (.inl rfl)
  | gateDown g => exact hgate g (.inr (.inl rfl))
  | beam g => exact hgate g (.inr (.inr rfl))
  | _ => exact .refl s

theorem setMode_writes (gate : Nat) (mode : GateMode) (level : Option Nat) :
    GateWrites s (s.setMode gate mode level) := by
  unfold State.setMode
  split <;> rfl

theorem setBypass_writes (gate : Nat) : GateWrites s (s.setBypass gate) := by
  unfold State.setBypass
  repeat' split
  all_goals rfl

theorem startGates_writes : GateWrites s s.startGates := by
  refine GateWrites.foldl (fun u g => ?_) _ s
  split <;> rfl

end
end Sys2Proof.Display

/-! Chapter 4: what each operation of the station leaves of the order of the display stacks (R81, R84). -/
namespace Sys2Proof.Display

open Machine Safety Orders

/-! ## What the order of the stacks rests on -/

/-- The start-up state, the clock and the claims of every panel. -/
def signs (s : State) : StartUp × Nat × (Panel → List Claim) := (s.startUp, s.clock, fun p => (s.displays.get p).claims)

section
variable {s t u : State} {p : Panel}

theorem stacksSound_of_signs (h : signs t = signs s) (hs : StacksSound s) : StacksSound t := by
  obtain ⟨hstart, hrest⟩ := Prod.mk.inj h
  obtain ⟨hclock, hclaims⟩ := Prod.mk.inj hrest
  intro p
  have hp := congrFun hclaims p
  rw [hstart, hclock, hp]
  exact hs p

/-- Stacks without a claim are in order. -/
theorem stacksSound_of_empty (h : ∀ p, (t.displays.get p).claims = []) : StacksSound t := by
  intro p
  rw [h p]
  exact ⟨stackSound_nil, fun _ => rfl⟩

/-- In a running station the stacks are to be in order only. -/
theorem stacksSound_of_running (hrun : t.running = true) (h : ∀ p, StackSound t.clock (t.displays.get p).claims) :
    StacksSound t := fun p => ⟨h p, fun hne => absurd (by simpa [State.running] using hrun) hne⟩

theorem running_of_signs (h : signs t = signs s) : t.running = s.running := by
  have hstart : t.startUp = s.startUp := congrArg Prod.fst h
  rw [State.running, hstart, State.running]

theorem EngineWrites.signs (h : EngineWrites s t) : signs t = signs s := by
  have hs := congrArg Display.signs h
  exact hs

theorem GateWrites.signs (h : GateWrites s t) : signs t = signs s := by
  have hs := congrArg Display.signs h
  exact hs

/-! ## Changes to the stacks -/

/-- A change to one stack of a running station that keeps its claims in order. -/
theorem changeStack_sound {f : List Claim → List Claim} (hrun : s.running = true) (hs : StacksSound s)
    (hf : StackSound s.clock (s.displays.get p).claims → StackSound s.clock (f (s.displays.get p).claims)) :
    StacksSound (s.changeStack p f) ∧ (s.changeStack p f).running = true := by
  have hframe := s.changeStack_frame p f
  have hclock : (s.changeStack p f).clock = s.clock := by
    have h := congrArg State.clock hframe
    exact h
  have hrun' : (s.changeStack p f).running = true := by
    have h := congrArg State.running hframe
    exact h.trans hrun
  refine ⟨stacksSound_of_running hrun' fun q => ?_, hrun'⟩
  rw [hclock]
  by_cases hq : q = p
  · subst hq
    by_cases hfit : (s.cfg.panels.get q).isSome = true
    · rw [State.changeStack_claims s q f hfit]
      exact hf (hs q).1
    · simp only [State.changeStack, if_neg hfit]
      exact (hs q).1
  · rw [State.changeStack_other s p q f hq]
    exact (hs q).1

/-- A change to all stacks of a running station that keeps each panel's claims in order. -/
theorem changeStacks_sound {F : Panel → List Claim → List Claim} (hrun : s.running = true) (hs : StacksSound s)
    (hF : ∀ p xs, StackSound s.clock xs → StackSound s.clock (F p xs)) : StacksSound (s.changeStacks F) := by
  have hframe := changeStacks_frame s F
  have hclock : (s.changeStacks F).clock = s.clock := by
    have h := congrArg State.clock hframe
    exact h
  have hrun' : (s.changeStacks F).running = true := by
    have h := congrArg State.running hframe
    exact h.trans hrun
  refine stacksSound_of_running hrun' fun p => ?_
  rw [hclock, changeStacks_get, changedStack]
  split
  · exact hF p _ (hs p).1
  · exact (hs p).1

theorem noticeClaims_sound (hrun : s.running = true) (hs : StacksSound s) : StacksSound s.noticeClaims := by
  refine changeStacks_sound hrun hs fun p xs hxs => ?_
  split
  next c _ =>
    refine stackSound_placeOrWithdraw hxs fun x hx => ?_
    unfold State.noticeClaimOf at hx
    split at hx
    · obtain ⟨d, -, rfl⟩ := Option.map_eq_some_iff.mp hx
      rfl
    · cases hx
  · exact hxs

/-- A HAZARD claim that a path is to hold names the path and is placed now. -/
theorem hazardClaimOf_some {r : PathRef} {x : Claim} (h : s.hazardClaimOf p r = some x) :
    x.id = .hazard r ∧ x.placed = s.clock := by
  unfold State.hazardClaimOf at h
  repeat' split at h
  all_goals cases h
  · exact ⟨rfl, rfl⟩
  · exact ⟨rfl, rfl⟩

theorem hazardClaims_sound (hrun : s.running = true) (hs : StacksSound s) : StacksSound s.hazardClaims := by
  refine changeStacks_sound hrun hs fun p xs hxs => ?_
  split
  · refine stackSound_foldl hxs (fun ys r hys => ?_) _
    exact stackSound_placeOrWithdraw hys fun x hx => (hazardClaimOf_some hx).2
  · exact hxs

theorem weatherClaim_sound {now : Nat} (new : List Bool) (c : PanelCfg) (xs : List Claim) (i : Nat)
    (hnow : s.clock = now) (hxs : StackSound now xs) : StackSound now (s.weatherClaim new p c xs i) := by
  unfold State.weatherClaim
  repeat' split
  · exact hxs
  · exact stackSound_place hxs hnow
  · exact hxs
  · exact stackSound_withdraw hxs _
  · exact hxs

/-- What an evaluation of the weather rules changes in the stacks (R90). -/
def weatherChange (s : State) (p : Panel) (xs : List Claim) : List Claim :=
  match s.cfg.panels.get p with
  | some c => (List.range 8).foldl (s.weatherClaim s.evaluatedRules p c) xs
  | none => xs

theorem evaluateRules_eq (s : State) :
    s.evaluateRules = { s.changeStacks (weatherChange s) with rules := s.evaluatedRules } := rfl

theorem evaluateRules_sound (hrun : s.running = true) (hs : StacksSound s) : StacksSound s.evaluateRules := by
  have hchange : StacksSound (s.changeStacks (weatherChange s)) := changeStacks_sound hrun hs fun p xs hxs => by
    unfold weatherChange
    split
    · exact stackSound_foldl hxs (fun ys i hys => weatherClaim_sound _ _ ys i rfl hys) _
    · exact hxs
  exact hchange

theorem endPosts_sound (hrun : s.running = true) (hs : StacksSound s) : StacksSound s.endPosts :=
  changeStacks_sound hrun hs fun _ _ hxs => stackSound_filter hxs _

theorem gateClaims_sound (g : GateId) (ask : GateAsk) (hrun : s.running = true) (hs : StacksSound s) :
    StacksSound (s.gateClaims g ask) := by
  unfold State.gateClaims
  split
  · refine changeStacks_sound hrun hs fun p xs hxs => ?_
    cases ask
    · dsimp only
      split
      · exact stackSound_place hxs rfl
      · exact hxs
    · dsimp only
      split
      · exact stackSound_withdraw hxs _
      · exact hxs
  · exact hs

/-- A GATE_AHEAD claim that a panel is to hold is placed now. -/
theorem gateAheadClaimOf_some {a : GateAheadCfg} {x : Claim} (h : s.gateAheadClaimOf p a = some x) :
    x.id = .gateAhead ∧ x.placed = s.clock := by
  unfold State.gateAheadClaimOf at h
  split at h
  · cases h
    exact ⟨rfl, rfl⟩
  · cases h

theorem gateAheadClaims_sound (sender : Nat) (hrun : s.running = true) (hs : StacksSound s) :
    StacksSound (s.gateAheadClaims sender) := by
  refine changeStacks_sound hrun hs fun p xs hxs => ?_
  repeat' split
  · exact stackSound_placeOrWithdraw hxs fun x hx => (gateAheadClaimOf_some hx).2
  · exact hxs
  · exact hxs

/-! ## Operations that leave the claims -/

variable (s)

/-- What the Hazard Unit writes, its records and the messages, leaves the claims. -/
theorem signs_of_hazard {s t : State} {hazard : Hazard} {told : List Instr}
    (h : t = { s with hazard := hazard, told := told }) : signs t = signs s := by
  rw [h]
  rfl

theorem recomputeEffective_signs : signs s.recomputeEffective = signs s := signs_of_hazard s.recomputeEffective_frame

theorem hearReport_signs (r : ChangeReport) : signs (s.hearReport r) = signs s := signs_of_hazard (s.hearReport_frame r)

theorem hearAndCompute_signs : signs s.hearAndCompute = signs s := signs_of_hazard s.hearAndCompute_frame

/-- A text handed over again leaves the claims. -/
theorem reformat_signs (p : Panel) : signs (s.reformat p) = signs s := by
  have hsame (x : Stack) (hx : x.claims = (s.displays.get p).claims) : signs (s.setStack p x) = signs s := by
    refine Prod.ext rfl (Prod.ext rfl (funext fun q => ?_))
    by_cases hq : q = p
    · simpa [signs, hq] using hx
    · simp [signs, PerPanel.get_set_other _ _ _ _ hq]
  unfold State.reformat
  repeat' split
  · rfl
  · exact hsame _ rfl
  · rfl

theorem automaticIssue_signs (i : Nat) (c : PathCfg) (kind : NoticeKind) :
    signs (s.automaticIssue i c kind) = signs s := by
  unfold State.automaticIssue
  split
  · exact ((issueNotice_writes ‹_›).trans (commit_writes _)).signs
  · rfl

theorem goodBulletin_signs (sender : Nat) (b : Bulletin) : signs (s.goodBulletin sender b) = signs s := by
  unfold State.goodBulletin
  repeat' split
  all_goals rfl

theorem takeBulletinFrame_signs : signs s.takeBulletinFrame = signs s := by
  unfold State.takeBulletinFrame
  split
  · rfl
  · dsimp only
    split
    · rfl
    · exact goodBulletin_signs ..

theorem startFrame_signs (p : Panel) : signs (s.startFrame p) = signs s := by
  unfold State.startFrame
  dsimp only
  split <;> rfl

theorem checkRow_signs (p : Panel) (row : Nat) (current : Bool) : signs (s.checkRow p row current) = signs s := by
  unfold State.checkRow
  dsimp only
  repeat' split
  all_goals rfl

theorem recoverPanel_signs (p : Panel) : signs (s.recoverPanel p) = signs s := by
  unfold State.recoverPanel
  dsimp only
  split <;> rfl

theorem endGap_signs : signs s.endGap = signs s := by
  unfold State.endGap
  split <;> rfl

theorem lineBusy_signs : signs s.lineBusy = signs s := endGap_signs s

theorem assemble_signs (c : Byte) (err : Bool) : signs (s.assemble c err) = signs s := by
  have hgood (kind : Byte) (f : RxFrame) : signs (s.goodFrame kind f) = signs s := by
    unfold State.goodFrame
    dsimp only
    repeat' split
    all_goals rfl
  unfold State.assemble
  split
  · rfl
  · rfl
  · rfl
  · exact hgood ..

theorem startSending_signs (f : Frame) (rest : List Frame) : signs (s.startSending f rest) = signs s := by
  have h : signs s.abandonReceive = signs s := by
    unfold State.abandonReceive
    split <;> rfl
  exact h

theorem collide_signs (x : Sending) : signs (s.collide x) = signs s := by
  unfold State.collide
  dsimp only
  repeat' split
  all_goals rfl

theorem sendOn_signs (x : Sending) : signs (s.sendOn x) = signs s := by
  unfold State.sendOn
  split <;> rfl

theorem receive_signs (got : List Byte) (gap : Nat) (c : Byte) (bad : Bool) :
    signs (s.receive got gap c bad) = signs s := by
  have hgather (got : List Byte) : signs (s.gather got) = signs s := by
    unfold State.gather
    repeat' split
    all_goals rfl
  unfold State.receive
  repeat' split
  · rfl
  · rfl
  · exact hgather ..

theorem answer_signs (data : Option (List Byte)) : signs (s.answer data) = signs s := by
  cases data <;> rfl

theorem applySetting_signs : signs s.applySetting = signs s := by
  unfold State.applySetting
  split <;> rfl

theorem tellOwner_signs (c : InputCfg) (active : Bool) : signs (s.tellOwner c active) = signs s := by
  unfold State.tellOwner
  split
  case h_1 | h_2 | h_3 => exact (gateInput_writes ..).signs
  case h_4 => split <;> rfl
  case h_5 =>
    split
    · exact lineBusy_signs s
    · rfl
  all_goals rfl

theorem takeChange_signs (i : Nat) (x : Input) : signs (s.takeChange i x) = signs s := tellOwner_signs ..

theorem terminalChange_signs (i : Nat) (x : Input) (active : Bool) : signs (s.terminalChange i x active) = signs s := by
  unfold State.terminalChange
  dsimp only
  split_ifs
  · rfl
  · rfl
  · exact takeChange_signs ..
  · rfl

theorem endSettle_signs : signs s.endSettle = signs s := by
  have h := (GateWrites.foldl (fun u g => releaseSettle_writes u g) s.fitted { s with
    settling := false
    engine := { s.engine with nextNumber := learnedNumber (numbersOf s.engine.table s.cfg.station) } }).signs
  exact h

theorem applyEffect_signs (a : OrderAction) : signs (s.applyEffect a) = signs s := by
  have hgate (gate : Nat) (f : GateId → State) (hf : ∀ g, signs (f g) = signs s) :
      signs ((GateId.ofCode gate).elim s f) = signs s := by
    cases GateId.ofCode gate
    · rfl
    · exact hf _
  unfold State.applyEffect
  split
  case h_1 gate | h_2 gate | h_3 gate => exact hgate gate _ fun g => (reevaluate_writes s g).signs
  case h_4 gate => exact hgate gate _ fun g => ((reevaluate_writes s g).trans (testLowering_writes ..)).signs
  case h_5 object =>
    split
    case h_1 code _ =>
      cases Panel.ofCode code
      · rfl
      · exact recoverPanel_signs ..
    case h_2 code =>
      split
      · rename_i g _
        cases s.cfg.gates.get g
        · rfl
        · exact (recoverGate_writes ..).signs
      · rfl
    all_goals rfl
  all_goals rfl

/-! ## Orders (R38, R42, R43) -/

variable {s}

theorem applyRecord_sound (e : Nat) (a : OrderAction) (h : StacksSound s ∧ s.running = true) :
    StacksSound (s.applyRecord e a) ∧ (s.applyRecord e a).running = true := by
  obtain ⟨hs, hrun⟩ := h
  have hsame {u : State} (hu : signs u = signs s) : StacksSound u ∧ u.running = true :=
    ⟨stacksSound_of_signs hu hs, (running_of_signs hu).trans hrun⟩
  unfold State.applyRecord
  split
  case h_1 =>
    split
    · exact changeStack_sound hrun hs fun hxs => stackSound_place hxs rfl
    · exact ⟨hs, hrun⟩
  case h_2 =>
    split
    · exact changeStack_sound hrun hs fun hxs => stackSound_withdraw hxs _
    · exact ⟨hs, hrun⟩
  case h_3 | h_4 | h_5 => exact hsame (setMode_writes ..).signs
  case h_6 => exact hsame ((setMode_writes ..).trans (setBypass_writes ..)).signs
  all_goals exact ⟨hs, hrun⟩

theorem applyBundle_sound (e : Nat) (acts : List OrderAction) (hrun : s.running = true) (hs : StacksSound s) :
    StacksSound (s.applyBundle e acts).1 := by
  have hnotices : signs (if acts.any OrderAction.onNotices then (s.applyNotices e (namedKeys acts) acts).1.commit
      else (s.applyNotices e (namedKeys acts) acts).1) = signs s := by
    split
    · exact ((applyNotices_writes ..).trans (commit_writes _)).signs
    · exact (applyNotices_writes ..).signs
  have hrecords (u : State) (hu : StacksSound u ∧ u.running = true) :
      StacksSound (acts.foldl (fun t a => t.applyRecord e a) u) :=
    (List.foldlRecOn (motive := fun v => StacksSound v ∧ v.running = true) acts _ hu fun v hv a _ => applyRecord_sound e a hv).1
  have heffects (u : State) (hu : StacksSound u) : StacksSound (acts.foldl State.applyEffect u) :=
    List.foldlRecOn (motive := StacksSound) acts _ hu fun v hv a _ => stacksSound_of_signs (applyEffect_signs v a) hv
  exact heffects _ (hrecords _ ⟨stacksSound_of_signs hnotices hs, (running_of_signs hnotices).trans hrun⟩)

/-- A bundle, refused or applied, keeps the stacks in order. -/
theorem takeBundle_sound (requested : Nat) (acts : List OrderAction) (hrun : s.running = true) (hs : StacksSound s) :
    StacksSound (s.takeBundle requested acts) := by
  unfold State.takeBundle
  split
  · exact hs
  · exact applyBundle_sound _ _ hrun hs

end
end Sys2Proof.Display

/-! Chapter 4: every step keeps the display stacks in order (R81, R84). -/
namespace Sys2Proof.Display

open Machine Safety Orders

/-! ## Every command keeps the stacks in order -/

section
variable {s t : State} {c : Instr} {f : State → State}

/-- A command of a block keeps the stacks in order where its effect on a running station does. -/
theorem event_sound (hs : StacksSound s) (h : s.event c f = .next t)
    (hf : ∀ u, u.running = true → StacksSound u → StacksSound (f u)) : StacksSound t := by
  rcases s.event_next t c f h with ⟨hrun, rfl⟩ | ⟨-, rfl⟩
  · exact hf (s.take c) hrun hs
  · exact hs

/-- A command of a block that leaves the claims keeps them in order. -/
theorem event_keeps (hs : StacksSound s) (h : s.event c f = .next t) (hf : ∀ u, signs (f u) = signs u) :
    StacksSound t := event_sound hs h fun u _ hu => stacksSound_of_signs (hf u) hu

theorem serveAlways_sound (hs : StacksSound s) (h : s.serveAlways c f = .next t)
    (hf : ∀ u, StacksSound u → StacksSound (f u)) : StacksSound t := by
  cases h
  split
  · exact hf (s.take c) hs
  · exact hs

/-- A request keeps the stacks in order where its handling by a running station does. -/
theorem serve_sound (hs : StacksSound s) (h : s.serve c f = .next t)
    (hf : ∀ u, u.running = true → StacksSound u → StacksSound (f u)) : StacksSound t := by
  refine serveAlways_sound hs h fun u hu => ?_
  split
  next hrun => exact hf u hrun hu
  next => exact hu

theorem serve_keeps (hs : StacksSound s) (h : s.serve c f = .next t) (hf : ∀ u, signs (f u) = signs u) :
    StacksSound t := serve_sound hs h fun u _ hu => stacksSound_of_signs (hf u) hu

/-- Everything else answers a state whose stacks are to be shown in order. -/
theorem next_sound {u : State} (hu : StacksSound u) (h : Host.Outcome.next (φ := Fault) (ρ := Refusal) u = .next t) :
    StacksSound t := by
  cases h
  exact hu

theorem next_keeps {u : State} (hs : StacksSound s) (hu : signs u = signs s)
    (h : Host.Outcome.next (φ := Fault) (ρ := Refusal) u = .next t) : StacksSound t :=
  next_sound (stacksSound_of_signs hu hs) h

/-! ### Start and reset (R84, R186, R187) -/

theorem doReset_sound (s : State) : StacksSound s.doReset := stacksSound_of_empty fun p => by cases p <;> rfl

theorem execLoadingEntry_sound (hs : StacksSound s) (h : execLoadingEntry s = .next t) : StacksSound t := by
  refine next_sound ?_ h
  split
  next hheld => exact stacksSound_of_empty fun p => (hs p).2 (by simp [hheld])
  next => exact hs

/-- A station that enters RUNNING has the stacks it had before. -/
theorem enterRunning_displays (s : State) (c : StationCfg) : (s.enterRunning c).displays = s.displays := by
  have h := congrArg State.displays (startGates_writes (s.configure c))
  exact h

theorem execLoadingEnd_sound (hs : StacksSound s) (image : Image) (h : execLoadingEnd image s = .next t) :
    StacksSound t := by
  refine next_sound ?_ h
  split
  next hloading =>
    have hempty : ∀ p, (s.displays.get p).claims = [] := fun p => (hs p).2 (by simp [hloading])
    split
    · exact stacksSound_of_empty hempty
    · exact stacksSound_of_empty fun p => by rw [enterRunning_displays, hempty p]
  next => exact hs

theorem execResponseComplete_sound (hs : StacksSound s) (h : execResponseComplete s = .next t) : StacksSound t := by
  refine next_sound ?_ h
  split
  · split
    · exact stacksSound_of_empty fun p => by cases p <;> rfl
    · exact stacksSound_of_signs (applySetting_signs _) hs
  all_goals exact hs

/-! ### The commands that change the stacks -/

theorem execWeatherRuleEvaluation_sound (hs : StacksSound s) (h : execWeatherRuleEvaluation s = .next t) :
    StacksSound t := by
  refine event_sound hs h fun u hrun hu => ?_
  split
  · exact evaluateRules_sound hrun hu
  · exact hu

theorem execPostEnd_sound (hs : StacksSound s) (h : execPostEnd s = .next t) : StacksSound t := by
  refine event_sound hs h fun u hrun hu => ?_
  split
  · exact endPosts_sound hrun hu
  · exact hu

theorem execOrder_sound (hs : StacksSound s) (body : List Byte) (h : execOrder body s = .next t) : StacksSound t := by
  refine serve_sound hs h fun u hrun hu => ?_
  split
  · exact hu
  · exact takeBundle_sound _ _ hrun hu

theorem outOfPlay_sound {u : State} (sender : Nat) (hrun : u.running = true) (hu : StacksSound u) :
    StacksSound (u.outOfPlay sender) := by
  have hsame := recomputeEffective_signs u
  exact gateAheadClaims_sound sender ((running_of_signs hsame).trans hrun) (stacksSound_of_signs hsame hu)

theorem execPeriodBoundary_sound (hs : StacksSound s) (entry : Nat) (h : execPeriodBoundary entry s = .next t) :
    StacksSound t := by
  refine event_sound hs h fun u hrun hu => ?_
  repeat' split
  · exact outOfPlay_sound (u := u.setPeer entry _) _ hrun hu
  all_goals exact hu

/-! ### The commands that leave the claims -/

theorem execNoticeExpiry_sound (hs : StacksSound s) (h : execNoticeExpiry s = .next t) : StacksSound t := by
  refine event_keeps hs h fun u => ?_
  split
  · exact (expireDue_writes u).signs
  · rfl

theorem execTombstonePurge_sound (hs : StacksSound s) (h : execTombstonePurge s = .next t) : StacksSound t := by
  refine event_keeps hs h fun u => ?_
  split
  · exact (purgeDue_writes u).signs
  · rfl

theorem execRefreshTick_sound (hs : StacksSound s) (h : execRefreshTick s = .next t) : StacksSound t := by
  refine event_keeps hs h fun u => ?_
  repeat' split
  · exact (refresh_writes u _).signs
  all_goals rfl

theorem execSettleEnd_sound (hs : StacksSound s) (h : execSettleEnd s = .next t) : StacksSound t := by
  refine event_keeps hs h fun u => ?_
  split
  · exact endSettle_signs u
  · rfl

theorem execReadDescriptor_sound (hs : StacksSound s) (d : Nat) (h : execReadDescriptor d s = .next t) :
    StacksSound t := by
  refine serve_keeps hs h fun u => ?_
  split <;> rfl

theorem execClearLatches_sound (hs : StacksSound s) (inputs faults : Word16)
    (h : execClearLatches inputs faults s = .next t) : StacksSound t := by
  refine serve_keeps hs h fun u => ?_
  split <;> rfl

theorem execServicePortCharacter_sound (hs : StacksSound s) (ch : Byte) (framingError parityError : Bool)
    (h : execServicePortCharacter ch framingError parityError s = .next t) : StacksSound t := by
  refine next_keeps hs ?_ h
  split
  · rfl
  · dsimp only
    split
    · rfl
    · exact receive_signs ..
    · rfl
    · rfl

theorem execRequestGapTimeout_sound (hs : StacksSound s) (h : execRequestGapTimeout s = .next t) : StacksSound t := by
  refine next_keeps hs ?_ h
  repeat' split
  all_goals rfl

theorem execLeadStateReport_sound (hs : StacksSound s) (p : Panel) (h : execLeadStateReport p s = .next t) :
    StacksSound t :=
  event_keeps hs h fun u => (GateWrites.foldl (fun u g => testForPanel_writes u g p) _ u).signs

theorem execMotionLimitExpiry_sound (hs : StacksSound s) (g : GateId) (h : execMotionLimitExpiry g s = .next t) :
    StacksSound t := by
  refine event_keeps hs h fun u => ?_
  split
  next c _ _ _ =>
    split
    · exact (moved_writes _ (enterFault_eq u g c _)).signs
    · rfl
  next => rfl

theorem execBeamClearTimeExpiry_sound (hs : StacksSound s) (g : GateId) (h : execBeamClearTimeExpiry g s = .next t) :
    StacksSound t := by
  refine event_keeps hs h fun u => ?_
  split
  next c _ _ _ =>
    split
    · exact (moved_writes _ (enterLowering_eq u g c)).signs
    · rfl
  next => rfl

theorem execFlasherPhase_sound (hs : StacksSound s) (g : GateId) (h : execFlasherPhase g s = .next t) :
    StacksSound t := by
  refine event_keeps hs h fun u => ?_
  split <;> rfl

theorem execRenderTrigger_sound (hs : StacksSound s) (p : Panel) (lead : Option Lead)
    (h : execRenderTrigger p lead s = .next t) : StacksSound t := by
  refine event_keeps hs h fun u => ?_
  split <;> rfl

theorem execRenderComplete_sound (hs : StacksSound s) (p : Panel) (h : execRenderComplete p s = .next t) :
    StacksSound t := by
  refine event_keeps hs h fun u => ?_
  split <;> rfl

theorem execFrameStart_sound (hs : StacksSound s) (p : Panel) (h : execFrameStart p s = .next t) : StacksSound t := by
  refine event_keeps hs h fun u => ?_
  repeat' split
  · exact startFrame_signs u p
  all_goals rfl

theorem execFlashPeriodExpiry_sound (hs : StacksSound s) (p : Panel) (h : execFlashPeriodExpiry p s = .next t) :
    StacksSound t := by
  refine event_keeps hs h fun u => ?_
  split
  · dsimp only
    split <;> rfl
  · rfl

theorem execLampCheckSample_sound (hs : StacksSound s) (p : Panel) (h : execLampCheckSample p s = .next t) :
    StacksSound t := by
  refine event_keeps hs h fun u => ?_
  split
  · dsimp only
    repeat' split
    · exact checkRow_signs ..
    all_goals rfl
  · rfl

theorem execBrightnessEvaluation_sound (hs : StacksSound s) (p : Panel) (light : Int)
    (h : execBrightnessEvaluation p light s = .next t) : StacksSound t := by
  refine event_keeps hs h fun u => ?_
  split <;> rfl

theorem execScanStart_sound (hs : StacksSound s) (h : execScanStart s = .next t) : StacksSound t := by
  refine event_keeps hs h fun u => ?_
  repeat' split
  all_goals rfl

theorem execScanComplete_sound (hs : StacksSound s) (raws : List Raw) (h : execScanComplete raws s = .next t) :
    StacksSound t := by
  refine event_keeps hs h fun u => ?_
  repeat' split
  all_goals rfl

theorem execSlidePulse_sound (hs : StacksSound s) (h : execSlidePulse s = .next t) : StacksSound t := by
  refine event_keeps hs h fun u => ?_
  split <;> rfl

theorem execHourlyAppend_sound (hs : StacksSound s) (h : execHourlyAppend s = .next t) : StacksSound t := by
  refine event_keeps hs h fun u => ?_
  split
  · exact hearAndCompute_signs u.closeHour
  · rfl

theorem execHazardComputation_sound (hs : StacksSound s) (h : execHazardComputation s = .next t) : StacksSound t := by
  refine event_keeps hs h fun u => ?_
  split
  · exact hearAndCompute_signs u
  · rfl

theorem execAutomaticIssue_sound (hs : StacksSound s) (path : Nat) (h : execAutomaticIssue path s = .next t) :
    StacksSound t := by
  refine event_keeps hs h fun u => ?_
  repeat' split
  · exact automaticIssue_signs ..
  all_goals rfl

theorem execAutomaticLift_sound (hs : StacksSound s) (path : Nat) (h : execAutomaticLift path s = .next t) :
    StacksSound t := by
  refine event_keeps hs h fun u => ?_
  split
  · dsimp only
    split
    · exact ((liftSlot_writes ..).trans (commit_writes _)).signs
    · rfl
  all_goals rfl

theorem execBulletinTime_sound (hs : StacksSound s) (h : execBulletinTime s = .next t) : StacksSound t := by
  refine event_keeps hs h fun u => ?_
  repeat' split
  all_goals rfl

theorem execLineCharacterReceived_sound (hs : StacksSound s) (ch : Byte) (framingError : Bool)
    (h : execLineCharacterReceived ch framingError s = .next t) : StacksSound t := by
  refine next_keeps hs ?_ h
  split
  · dsimp only
    split
    · exact endGap_signs s
    · exact (assemble_signs ..).trans (endGap_signs s)
    · exact (assemble_signs ..).trans (endGap_signs s)
  · rfl

theorem execLineBusy_sound (hs : StacksSound s) (h : execLineBusy s = .next t) : StacksSound t := by
  refine next_keeps hs ?_ h
  split
  · exact lineBusy_signs s
  · rfl

theorem execTransmitStart_sound (hs : StacksSound s) (h : execTransmitStart s = .next t) : StacksSound t := by
  refine event_keeps hs h fun u => ?_
  split
  · exact startSending_signs ..
  · rfl

theorem execTransmitCharacterEnd_sound (hs : StacksSound s) (h : execTransmitCharacterEnd s = .next t) :
    StacksSound t := by
  refine event_keeps hs h fun u => ?_
  repeat' split
  · exact sendOn_signs ..
  · exact collide_signs ..
  all_goals rfl

theorem execTerminalLevelChange_sound (hs : StacksSound s) (input : Nat) (active : Bool)
    (h : execTerminalLevelChange input active s = .next t) : StacksSound t := by
  refine next_keeps hs ?_ h
  repeat' split
  · exact terminalChange_signs ..
  all_goals rfl

theorem execDebounceExpiry_sound (hs : StacksSound s) (input : Nat) (h : execDebounceExpiry input s = .next t) :
    StacksSound t := by
  refine event_keeps hs h fun u => ?_
  repeat' split
  · exact takeChange_signs ..
  all_goals rfl

/-- Whatever command a station takes, its stacks stay in order. -/
theorem exec_sound (hs : StacksSound s) (h : exec c s = .next t) : StacksSound t := by
  cases c <;> dsimp only [exec] at h
  case reset => exact next_sound (doReset_sound s) h
  case loadingEntry => exact execLoadingEntry_sound hs h
  case loadingEnd image => exact execLoadingEnd_sound hs _ h
  case settleEnd => exact execSettleEnd_sound hs h
  case noticeFrameTaken => exact event_keeps hs h fun u => (takeNoticeFrame_writes u).signs
  case noticeExpiry => exact execNoticeExpiry_sound hs h
  case tombstonePurge => exact execTombstonePurge_sound hs h
  case refreshTick => exact execRefreshTick_sound hs h
  case catchUp => exact event_keeps hs h fun u => (setCatchUp_writes u).signs
  case issue | amend | lift | post | clearPost | holdOpen | holdClosed | release | forceClose | clearFault | restart =>
    exact serve_sound hs h fun _ hrun hu => takeBundle_sound _ _ hrun hu
  case order body => exact execOrder_sound hs _ h
  case status | unknownRequest => exact serveAlways_sound hs h fun _ hu => hu
  case readNoticeBySlot | readNoticeByKey | readSectionMapEntry | readPeerEntry | readLocalPath | readRemotePath
  | readRingRecord | readSensorRole | readPanel | readGate => exact serve_keeps hs h fun u => answer_signs u _
  case readDescriptor d => exact execReadDescriptor_sound hs _ h
  case readLatches | readCounters | clearCounters => exact serve_keeps hs h fun _ => rfl
  case clearLatches inputs faults => exact execClearLatches_sound hs _ _ h
  case servicePortCharacter ch framingError parityError => exact execServicePortCharacter_sound hs _ _ _ h
  case requestGapTimeout => exact execRequestGapTimeout_sound hs h
  case responseComplete => exact execResponseComplete_sound hs h
  case demandReevaluation g => exact event_keeps hs h fun u => (reevaluate_writes u g).signs
  case preWarningExpiry g => exact event_keeps hs h fun u => (testLowering_writes u g).signs
  case shownDurationReached g p => exact event_keeps hs h fun u => (testLowering_writes u g).signs
  case leadStateReport p => exact execLeadStateReport_sound hs _ h
  case motionLimitExpiry g => exact execMotionLimitExpiry_sound hs _ h
  case beamClearTimeExpiry g => exact execBeamClearTimeExpiry_sound hs _ h
  case flasherPhase g => exact execFlasherPhase_sound hs _ h
  case noticeClaim => exact event_sound hs h fun _ => noticeClaims_sound
  case hazardClaim => exact event_sound hs h fun _ => hazardClaims_sound
  case weatherRuleEvaluation => exact execWeatherRuleEvaluation_sound hs h
  case postEnd => exact execPostEnd_sound hs h
  case gateClaimRequest g ask => exact event_sound hs h fun _ => gateClaims_sound g ask
  case gateAheadClaim sender => exact event_sound hs h fun _ => gateAheadClaims_sound sender
  case fieldReformat p => exact event_keeps hs h fun u => reformat_signs u p
  case accessedMark d => exact event_keeps hs h fun _ => rfl
  case renderTrigger p lead => exact execRenderTrigger_sound hs _ _ h
  case renderComplete p => exact execRenderComplete_sound hs _ h
  case frameStart p => exact execFrameStart_sound hs _ h
  case flashPeriodExpiry p => exact execFlashPeriodExpiry_sound hs _ h
  case lampCheckSample p => exact execLampCheckSample_sound hs _ h
  case brightnessEvaluation p light => exact execBrightnessEvaluation_sound hs _ _ h
  case scanStart => exact execScanStart_sound hs h
  case scanComplete raws => exact execScanComplete_sound hs _ h
  case slidePulse => exact execSlidePulse_sound hs h
  case hourlyAppend => exact execHourlyAppend_sound hs h
  case hazardComputation => exact execHazardComputation_sound hs h
  case automaticIssue path => exact execAutomaticIssue_sound hs _ h
  case automaticLift path => exact execAutomaticLift_sound hs _ h
  case noticeChangeReport r => exact event_keeps hs h fun u => hearReport_signs u r
  case effectiveLevelRecompute => exact event_keeps hs h recomputeEffective_signs
  case bulletinTime => exact execBulletinTime_sound hs h
  case bulletinFrameTaken => exact event_keeps hs h takeBulletinFrame_signs
  case periodBoundary entry => exact execPeriodBoundary_sound hs _ h
  case lineCharacterReceived ch framingError => exact execLineCharacterReceived_sound hs _ _ h
  case lineBusy => exact execLineBusy_sound hs h
  case receiveGapTimeout => exact event_keeps hs h endGap_signs
  case transmitStart => exact execTransmitStart_sound hs h
  case transmitCharacterEnd => exact execTransmitCharacterEnd_sound hs h
  case terminalLevelChange input active => exact execTerminalLevelChange_sound hs _ _ h
  case debounceExpiry input => exact execDebounceExpiry_sound hs _ h
  case latchSetRequest latch => exact event_keeps hs h fun _ => rfl

/-- A microsecond makes claims older only. -/
theorem tick_sound (hs : StacksSound s) : StacksSound s.tick := by
  have hclaims : s.tick.displays = s.displays := by
    have h := congrArg State.displays s.runClock_frame
    exact h
  have hstart : s.tick.startUp = s.startUp := by
    have h := congrArg State.startUp s.runClock_frame
    exact h
  have hclock : s.clock ≤ s.tick.clock := by
    show s.clock ≤ s.runClock.clock
    unfold State.runClock
    split <;> simp
  intro p
  obtain ⟨hsound, hempty⟩ := hs p
  rw [hclaims, hstart]
  exact ⟨stackSound_mono hsound hclock, hempty⟩

/-- Settles O56: every command keeps the stacks in order, and so does the passing of time. -/
theorem stacksKept : Obligations.StacksKept := by
  intro s t hs h
  cases hp : s.pending with
  | cons c rest =>
    rw [step_pending s c rest hp] at h
    exact exec_sound (s := { s with pending := rest }) hs h
  | nil =>
    cases hm : s.told with
    | cons c rest =>
      rw [step_told s c rest hp hm] at h
      exact exec_sound hs h
    | nil =>
      rw [step_tick s hp hm] at h
      exact next_sound (tick_sound hs) h

end
end Sys2Proof.Display

/-! Chapter 4: the NOTICE claims (R85, R86). -/
namespace Sys2Proof.Display

open Machine Safety Orders

/-! ## Choosing one of several -/

section
variable {α : Type} {before : α → α → Bool} {xs : List α}

/-- One more item of a list is chosen where it comes before the choice so far. -/
theorem pick_concat (x : α) :
    pick before (xs ++ [x]) = some ((pick before xs).elim x fun y => if before x y then x else y) := by
  have hstep : pick before (xs ++ [x]) = match pick before xs with
      | none => some x
      | some y => if before x y then some x else some y := by
    rw [pick, List.foldl_append]
    rfl
  rw [hstep]
  cases pick before xs with
  | none => rfl
  | some y => exact (apply_ite some ..).symm

theorem pick_eq_none_iff : pick before xs = none ↔ xs = [] := by
  cases xs using List.reverseRecOn with
  | nil => simp [pick]
  | append_singleton xs x => simp [pick_concat]

/-- The choice is an item of the list before which no item of it comes. -/
theorem pick_eq_some (hirr : ∀ x, ¬before x x) (htrans : ∀ x y z, before x y → before y z → before x z) {y : α}
    (h : pick before xs = some y) : y ∈ xs ∧ ∀ x ∈ xs, ¬before x y := by
  induction xs using List.reverseRecOn generalizing y with
  | nil => cases h
  | append_singleton xs x ih =>
    rw [pick_concat] at h
    cases hbest : pick before xs with
    | none =>
      rw [hbest] at h
      cases h
      rw [pick_eq_none_iff.mp hbest]
      simpa using hirr x
    | some best =>
      obtain ⟨hmem, hfirst⟩ := ih hbest
      rw [hbest] at h
      cases h
      rw [Option.elim_some]
      split
      next hx =>
        refine ⟨by simp, List.forall_mem_append.mpr ⟨fun z hz hzx => ?_, by simpa using hirr x⟩⟩
        exact hfirst z hz (htrans z x best hzx hx)
      next hx => exact ⟨List.mem_append_left _ hmem, List.forall_mem_append.mpr ⟨hfirst, by simpa using hx⟩⟩

end

/-! ## The NOTICE claims (R85, R86) -/

/-- A notice governs before another where it is the stronger one (R30). -/
theorem governs_iff (x y : Notice) : governs x y = true ↔ Stronger x y := by
  unfold governs Stronger
  split_ifs with hkind hlevel horigin <;> simp only [decide_eq_true_eq] <;> omega

theorem stronger_irrefl (x : Notice) : ¬Stronger x x := by
  unfold Stronger
  omega

theorem stronger_trans {x y z : Notice} (h : Stronger x y) (h' : Stronger y z) : Stronger x z := by
  unfold Stronger at h h' ⊢
  omega

section
variable {s t : State} {p : Panel} {c : PanelCfg} {n : Notice} {d : Nat}

theorem usable_iff : s.usable d p = true ↔ (s.descriptor d).present = true ∧ (s.descriptor d).cfg.mask.get p = true := by
  simp [State.usable]

theorem meets_iff : n.meets c = true ↔ n.firstSec ≤ c.lastCover ∧ c.firstCover ≤ n.lastSec := by simp [Notice.meets]

/-- The panel's notice is in force, meets its coverage, and no stronger one does (R85). -/
theorem panelNotice_some {table : List (Option NoticeRecord)} (h : panelNotice table c = some n) :
    n ∈ inForce table ∧ n.firstSec ≤ c.lastCover ∧ c.firstCover ≤ n.lastSec ∧
      ∀ m ∈ inForce table, m.firstSec ≤ c.lastCover → c.firstCover ≤ m.lastSec → ¬Stronger m n := by
  obtain ⟨hmem, hfirst⟩ := pick_eq_some (fun x => by rw [governs_iff]; exact stronger_irrefl x)
    (fun x y z => by simp only [governs_iff]; exact stronger_trans) h
  obtain ⟨hn, hmeets⟩ := List.mem_filter.mp hmem
  obtain ⟨hlast, hfirst'⟩ := meets_iff.mp hmeets
  refine ⟨hn, hlast, hfirst', fun m hm hml hmf => ?_⟩
  rw [← governs_iff]
  exact hfirst m (List.mem_filter.mpr ⟨hm, meets_iff.mpr ⟨hml, hmf⟩⟩)

/-- A panel has no notice exactly where none in force meets its coverage (R85). -/
theorem panelNotice_none_iff {table : List (Option NoticeRecord)} :
    panelNotice table c = none ↔ ∀ m ∈ inForce table, ¬(m.firstSec ≤ c.lastCover ∧ c.firstCover ≤ m.lastSec) := by
  simp only [panelNotice, pick_eq_none_iff, List.filter_eq_nil_iff, meets_iff]

/-- The descriptor of a notice's claim is its message where that may be shown, and otherwise the kind's default (R86). -/
theorem noticeDescriptor_some
    (h : (n.message = some d ∧ s.usable d p = true) ∨
      ((∀ m, n.message = some m → s.usable m p = false) ∧ defaultOf c.defaults n.kind = some d ∧
        s.usable d p = true)) : s.noticeDescriptor p c n = some d := by
  unfold State.noticeDescriptor
  rcases h with ⟨hmsg, husable⟩ | ⟨hmsg, hdefault, husable⟩
  · simp [hmsg, husable]
  · have hnone : n.message.filter (fun d => s.usable d p) = none := by
      rw [Option.filter_eq_none_iff]
      exact fun m hm => by simp [hmsg m hm]
    simp [hnone, hdefault, husable]

/-- A notice has no descriptor where neither its message nor the kind's default may be shown (R86). -/
theorem noticeDescriptor_none (hmsg : ∀ m, n.message = some m → s.usable m p = false)
    (hdefault : ∀ d, defaultOf c.defaults n.kind = some d → s.usable d p = false) :
    s.noticeDescriptor p c n = none := by
  unfold State.noticeDescriptor
  rw [Option.or_eq_none_iff, Option.filter_eq_none_iff, Option.filter_eq_none_iff]
  exact ⟨fun m hm => by simp [hmsg m hm], fun d hd => by simp [hdefault d hd]⟩

theorem noticeClaimOf_id {x : Claim} (h : s.noticeClaimOf p c = some x) : x.id = .notice := by
  unfold State.noticeClaimOf at h
  split at h
  · obtain ⟨d, -, rfl⟩ := Option.map_eq_some_iff.mp h
    rfl
  · cases h

/-- The claims of a configured panel after NOTICE_CLAIM. -/
theorem noticeClaims_claims (hc : s.cfg.panels.get p = some c) :
    (s.noticeClaims.displays.get p).claims = placeOrWithdraw .notice (s.noticeClaimOf p c) (s.displays.get p).claims := by
  rw [State.noticeClaims, changeStacks_claims (by simp [hc]), hc]

theorem noticeClaims_sameBut (hc : s.cfg.panels.get p = some c) :
    SameBut [.notice] (s.displays.get p).claims (s.noticeClaims.displays.get p).claims := by
  rw [noticeClaims_claims hc]
  exact placeOrWithdraw_sameBut _ _ fun x hx => noticeClaimOf_id hx

/-- A notice with a descriptor has its claim placed, at the priority of its kind. -/
theorem noticeClaims_placed (hc : s.cfg.panels.get p = some c) (hn : panelNotice s.engine.table c = some n)
    (hd : s.noticeDescriptor p c n = some d) :
    Placed s.clock (s.displays.get p).claims (s.noticeClaims.displays.get p).claims .notice d (noticePriority n.kind) := by
  have hclaim : s.noticeClaimOf p c =
      some { id := .notice, descriptor := d, priority := noticePriority n.kind, placed := s.clock } := by
    simp [State.noticeClaimOf, hn, hd]
  rw [noticeClaims_claims hc, hclaim]
  exact placeClaim_placed ..

/-- A panel with no claim of a notice to hold holds none. -/
theorem noticeClaims_absent (hc : s.cfg.panels.get p = some c) (hnone : s.noticeClaimOf p c = none) :
    Absent (s.noticeClaims.displays.get p).claims .notice := by
  rw [noticeClaims_claims hc, hnone]
  exact withdrawClaim_gone .notice _

end

/-- Settles O33: the claim of the notice that `pick` chooses is placed or withdrawn on each panel. -/
theorem noticeClaimFollowsTable : Obligations.NoticeClaimFollowsTable := by
  refine fun s hs => ⟨fun d p => usable_iff, _, Gates.event_of_startUp hs, fun p c hc => ?_,
    fun p hp => changeStacks_unfitted hp, stacks_row s _⟩
  refine ⟨noticeClaims_sameBut (s := s.take .noticeClaim) hc, fun n hn => ?_, fun m hm hlast hfirst => ?_, fun hout => ?_⟩
  · obtain ⟨hmem, hlast, hfirst, hgoverns⟩ := panelNotice_some hn
    refine ⟨hmem, hlast, hfirst, hgoverns, fun d hd => ?_, fun hmsg hdefault => ?_⟩
    · exact noticeClaims_placed (s := s.take .noticeClaim) hc hn (noticeDescriptor_some hd)
    · refine noticeClaims_absent (s := s.take .noticeClaim) hc ?_
      have hd : (s.take .noticeClaim).noticeDescriptor p c n = none := noticeDescriptor_none hmsg hdefault
      have hn' : panelNotice (s.take .noticeClaim).engine.table c = some n := hn
      simp only [State.noticeClaimOf, hn', hd, Option.map_none]
  · cases hn : panelNotice s.engine.table c with
    | some n => exact ⟨n, rfl⟩
    | none => exact absurd ⟨hlast, hfirst⟩ (panelNotice_none_iff.mp hn m hm)
  · refine noticeClaims_absent (s := s.take .noticeClaim) hc ?_
    have hn : panelNotice (s.take .noticeClaim).engine.table c = none :=
      panelNotice_none_iff.mpr fun m hm => by
        have := hout m hm
        omega
    simp only [State.noticeClaimOf, hn]

end Sys2Proof.Display

/-! Chapter 4: the HAZARD and GATE_AHEAD claims, the end of posts and the claims of a gate (R87, R91 to R93). -/
namespace Sys2Proof.Display

open Machine Safety Orders

/-! ## The HAZARD claims (R87) -/

section
variable {s : State} {p : Panel} {c : PanelCfg} {r : PathRef} {warn close : Nat}

/-- The paths of a panel's mask, in path order. -/
def maskedPaths (c : PanelCfg) : List PathRef := pathOrder.filter fun r => c.pathMask.contains r

theorem mem_maskedPaths : r ∈ maskedPaths c ↔ r ∈ pathOrder ∧ r ∈ c.pathMask := by simp [maskedPaths]

/-- What a path is to hold on a panel is placed, or its claim withdrawn, in one step of the change. -/
def hazardStep (s : State) (p : Panel) (xs : List Claim) (r : PathRef) : List Claim :=
  placeOrWithdraw (.hazard r) (s.hazardClaimOf p r) xs

theorem hazardStep_sameBut (xs : List Claim) (r : PathRef) : SameBut [.hazard r] xs (hazardStep s p xs r) :=
  placeOrWithdraw_sameBut _ _ fun _ hx => (hazardClaimOf_some hx).1

/-- The claims of a configured panel after HAZARD_CLAIM. -/
theorem hazardClaims_claims (hc : s.cfg.panels.get p = some c) :
    (s.hazardClaims.displays.get p).claims = (maskedPaths c).foldl (hazardStep s p) (s.displays.get p).claims := by
  rw [State.hazardClaims, changeStacks_claims (by simp [hc]), hc]
  rfl

theorem hazardClaims_sameBut (hc : s.cfg.panels.get p = some c) :
    SameBut ((maskedPaths c).map .hazard) (s.displays.get p).claims (s.hazardClaims.displays.get p).claims := by
  rw [hazardClaims_claims hc]
  exact foldl_sameBut hazardStep_sameBut _

/-- Of the paths of the mask, a path's own step decides its claim. -/
theorem hazardClaims_at (hc : s.cfg.panels.get p = some c) (hr : r ∈ maskedPaths c) :
    ∃ ys, ys.filter (fun x => x.id = .hazard r) = (s.displays.get p).claims.filter (fun x => x.id = .hazard r) ∧
      (s.hazardClaims.displays.get p).claims.filter (fun x => x.id = .hazard r) =
        (hazardStep s p ys r).filter fun x => x.id = .hazard r := by
  have hnodup : ((maskedPaths c).map ClaimId.hazard).Nodup :=
    (List.Nodup.filter _ (by decide)).map fun _ _ h => ClaimId.hazard.inj h
  rw [hazardClaims_claims hc]
  exact foldl_at hazardStep_sameBut hnodup hr _

/-- A path with a claim to hold has it placed. -/
theorem hazardClaims_placed {d prio : Nat} (hc : s.cfg.panels.get p = some c) (hr : r ∈ maskedPaths c)
    (hclaim : s.hazardClaimOf p r = some { id := .hazard r, descriptor := d, priority := prio, placed := s.clock }) :
    Placed s.clock (s.displays.get p).claims (s.hazardClaims.displays.get p).claims (.hazard r) d prio := by
  obtain ⟨ys, hys, hnew⟩ := hazardClaims_at hc hr
  refine placed_congr ?_ hys.symm hnew
  rw [hazardStep, hclaim]
  exact placeClaim_placed ..

/-- A path with no claim to hold holds none. -/
theorem hazardClaims_absent (hc : s.cfg.panels.get p = some c) (hr : r ∈ maskedPaths c)
    (hclaim : s.hazardClaimOf p r = none) : Absent (s.hazardClaims.displays.get p).claims (.hazard r) := by
  obtain ⟨ys, -, hnew⟩ := hazardClaims_at hc hr
  refine absent_congr ?_ hnew
  rw [hazardStep, hclaim]
  exact withdrawClaim_gone (.hazard r) ys

theorem hazardClaimOf_warn (hd : pathDescriptors s.cfg r = some (warn, close)) (hl : s.effectiveOf r = .warn) :
    s.hazardClaimOf p r =
      if s.usable warn p then some { id := .hazard r, descriptor := warn, priority := 8, placed := s.clock } else none := by
  simp only [State.hazardClaimOf, hd, hl]

theorem hazardClaimOf_close (hd : pathDescriptors s.cfg r = some (warn, close)) (hl : s.effectiveOf r = .close) :
    s.hazardClaimOf p r =
      if s.usable close p then some { id := .hazard r, descriptor := close, priority := 11, placed := s.clock }
      else none := by
  simp only [State.hazardClaimOf, hd, hl]

theorem hazardClaimOf_low (hl : s.effectiveOf r = .quiet ∨ s.effectiveOf r = .watch) : s.hazardClaimOf p r = none := by
  unfold State.hazardClaimOf
  split
  · rcases hl with hl | hl <;> simp only [hl]
  · rfl

theorem hazardClaimOf_unconfigured (hd : pathDescriptors s.cfg r = none) : s.hazardClaimOf p r = none := by
  simp only [State.hazardClaimOf, hd]

theorem effectiveOf_ours {i : Nat} {x : PathRec} (hx : s.hazard.paths[i]? = some x) :
    s.effectiveOf (.ours i) = x.effective := by
  simp [State.effectiveOf, State.path, List.getD_eq_getElem?_getD, hx]

theorem effectiveOf_remote {i : Nat} {l : Level} (hl : s.hazard.remotes[i]? = some l) : s.effectiveOf (.remote i) = l := by
  simp [State.effectiveOf, List.getD_eq_getElem?_getD, hl]

end

/-! ## The GATE_AHEAD claims (R93) -/

section
variable {s : State} {p : Panel} {c : PanelCfg} {a : GateAheadCfg} {sender : Nat} {x : Peer}

/-- The entry of a sender is the first entry in use that names it (R155). -/
theorem peerOf_eq_some_iff : s.peerOf sender = some x ↔
    ∃ i : Nat, s.bulletin.peers[i]? = some (some x) ∧ x.sender = sender ∧
      ∀ j < i, ∀ y : Peer, s.bulletin.peers[j]? = some (some y) → y.sender ≠ sender := by
  unfold State.peerOf
  rw [List.find?_filterMap, Option.bind_eq_some_iff]
  constructor
  · rintro ⟨o, hfind, rfl : o = some x⟩
    obtain ⟨hx, i, hi, hat, hbefore⟩ := List.find?_eq_some_iff_getElem.mp hfind
    refine ⟨i, by rw [List.getElem?_eq_getElem hi, hat], by simpa using hx, fun j hj y hy => ?_⟩
    obtain ⟨hj', hat'⟩ := List.getElem?_eq_some_iff.mp hy
    simpa [hat'] using hbefore j hj
  · rintro ⟨i, hi, hx, hbefore⟩
    obtain ⟨hi', hat⟩ := List.getElem?_eq_some_iff.mp hi
    refine ⟨some x, List.find?_eq_some_iff_getElem.mpr ⟨by simpa using hx, i, hi', hat, fun j hj => ?_⟩, rfl⟩
    cases hy : s.bulletin.peers[j] with
    | none => rfl
    | some y => simpa using hbefore j hj y (List.getElem?_eq_some_iff.mpr ⟨hj.trans hi', hy⟩)

theorem warnsAhead_iff (st : GateState) : warnsAhead st = true ↔
    st = .warning ∨ st = .lowering ∨ st = .retreat ∨ st = .waitClear ∨ st = .closed := by
  cases st <;> simp [warnsAhead]

/-- A panel's gate ahead warns as its sender's present entry reports it (R93). -/
theorem gateAheadWarns_iff : s.gateAheadWarns a = true ↔
    ∃ x, s.peerOf a.station = some x ∧ x.present = true ∧ ∃ r ∈ x.bulletin.gates, r.gate.code = a.gate ∧
      (r.state = .warning ∨ r.state = .lowering ∨ r.state = .retreat ∨ r.state = .waitClear ∨ r.state = .closed) := by
  unfold State.gateAheadWarns
  cases s.peerOf a.station with
  | none => simp
  | some x => simp [warnsAhead_iff]

theorem exec_gateAheadClaim (hs : s.startUp = .running) :
    exec (.gateAheadClaim sender) s = .next ((s.take (.gateAheadClaim sender)).gateAheadClaims sender) :=
  Gates.event_of_startUp (f := fun s => s.gateAheadClaims sender) hs

/-- The claims of a panel that names the sender after GATE_AHEAD_CLAIM. -/
theorem gateAheadClaims_claims (hc : s.cfg.panels.get p = some c) (ha : c.gateAhead = some a)
    (hsender : a.station = sender) : ((s.gateAheadClaims sender).displays.get p).claims =
      placeOrWithdraw .gateAhead (s.gateAheadClaimOf p a) (s.displays.get p).claims := by
  rw [State.gateAheadClaims, changeStacks_claims (by simp [hc])]
  simp only [hc, Option.bind_some, ha, hsender, if_true]

theorem gateAheadClaims_sameBut (hc : s.cfg.panels.get p = some c) (ha : c.gateAhead = some a)
    (hsender : a.station = sender) :
    SameBut [.gateAhead] (s.displays.get p).claims ((s.gateAheadClaims sender).displays.get p).claims := by
  rw [gateAheadClaims_claims hc ha hsender]
  exact placeOrWithdraw_sameBut _ _ fun _ hx => (gateAheadClaimOf_some hx).1

theorem gateAheadClaims_placed (hc : s.cfg.panels.get p = some c) (ha : c.gateAhead = some a)
    (hsender : a.station = sender) (hwarns : (s.gateAheadWarns a && s.usable a.descriptor p) = true) :
    Placed s.clock (s.displays.get p).claims ((s.gateAheadClaims sender).displays.get p).claims .gateAhead
      a.descriptor 13 := by
  rw [gateAheadClaims_claims hc ha hsender, State.gateAheadClaimOf, if_pos hwarns]
  exact placeClaim_placed ..

theorem gateAheadClaims_absent (hc : s.cfg.panels.get p = some c) (ha : c.gateAhead = some a)
    (hsender : a.station = sender) (hwarns : ¬(s.gateAheadWarns a && s.usable a.descriptor p) = true) :
    Absent ((s.gateAheadClaims sender).displays.get p).claims .gateAhead := by
  rw [gateAheadClaims_claims hc ha hsender, State.gateAheadClaimOf, if_neg hwarns]
  exact withdrawClaim_gone .gateAhead _

/-- A panel that does not name the sender keeps its stack. -/
theorem gateAheadClaims_other
    (hother : ∀ c a, s.cfg.panels.get p = some c → c.gateAhead = some a → a.station ≠ sender) :
    (s.gateAheadClaims sender).displays.get p = s.displays.get p := by
  refine changeStacks_same ?_
  cases hc : s.cfg.panels.get p with
  | none => rfl
  | some c =>
    cases ha : c.gateAhead with
    | none => simp [ha]
    | some a => simp [ha, hother c a hc ha]

end

/-- Settles O34: each path's step, and the step of the gate ahead, decides the claim of its identity. -/
theorem hazardAndGateAheadClaims : Obligations.HazardAndGateAheadClaims := by
  intro s hs
  refine ⟨fun i c hc => by simp [pathDescriptors, hc], fun i c hc => by simp [pathDescriptors, hc],
    fun i => ⟨fun hc => by simp [pathDescriptors, hc], fun hc => by simp [pathDescriptors, hc]⟩,
    fun i x => effectiveOf_ours, fun i l => effectiveOf_remote, ?hazard, fun sender x => peerOf_eq_some_iff, ?gateAhead⟩
  case hazard =>
    refine ⟨_, Gates.event_of_startUp hs, fun p c hc => ⟨?_, fun r hr hmask hd => ?_, fun r hr hmask warn close hd => ?_⟩,
      fun p hp => changeStacks_unfitted hp, stacks_row s _⟩
    · exact hazardClaims_sameBut (s := s.take .hazardClaim) hc
    · exact hazardClaims_absent (s := s.take .hazardClaim) hc (mem_maskedPaths.mpr ⟨hr, hmask⟩)
        (hazardClaimOf_unconfigured hd)
    · have hr' := mem_maskedPaths.mpr ⟨hr, hmask⟩
      have hwarn := hazardClaimOf_warn (s := s.take .hazardClaim) (p := p) hd
      have hclose := hazardClaimOf_close (s := s.take .hazardClaim) (p := p) hd
      refine ⟨fun hl hu => ?_, fun hl hu => ?_, fun hl => ?_⟩
      · exact hazardClaims_placed (s := s.take .hazardClaim) hc hr' ((hwarn hl).trans (if_pos hu))
      · exact hazardClaims_placed (s := s.take .hazardClaim) hc hr' ((hclose hl).trans (if_pos hu))
      · refine hazardClaims_absent (s := s.take .hazardClaim) hc hr' ?_
        rcases hl with hl | hl | ⟨hl, hu⟩ | ⟨hl, hu⟩
        · exact hazardClaimOf_low (.inl hl)
        · exact hazardClaimOf_low (.inr hl)
        · exact (hwarn hl).trans (if_neg (Bool.eq_false_iff.mp hu))
        · exact (hclose hl).trans (if_neg (Bool.eq_false_iff.mp hu))
  case gateAhead =>
    refine fun sender => ⟨_, exec_gateAheadClaim hs, fun p c a hc ha hsender => ?_,
      fun p hother => gateAheadClaims_other hother, stacks_row s _⟩
    refine ⟨(s.gateAheadWarns a && s.usable a.descriptor p) = true, ?_, ?_, ?_, ?_⟩
    · rw [Bool.and_eq_true, and_comm, gateAheadWarns_iff, hsender]
    · exact gateAheadClaims_sameBut (s := s.take (.gateAheadClaim sender)) hc ha hsender
    · exact gateAheadClaims_placed (s := s.take (.gateAheadClaim sender)) hc ha hsender
    · exact gateAheadClaims_absent (s := s.take (.gateAheadClaim sender)) hc ha hsender

/-! ## The end of posts and the claims of a gate (R91, R92) -/

section
variable {s : State} {p : Panel} {g : GateId} {c : GateCfg}

/-- What a request of a fitted gate changes in a stack. -/
def gateChange (s : State) (g : GateId) (c : GateCfg) (ask : GateAsk) (p : Panel) (xs : List Claim) : List Claim :=
  match ask with
  | .place => if s.warnable c p then placeClaim (gateClaim g c s.clock) xs else xs
  | .withdraw => if c.approach.get p then withdrawClaim (.gate g) xs else xs

theorem gateClaims_eq (hc : s.cfg.gates.get g = some c) (ask : GateAsk) :
    s.gateClaims g ask = s.changeStacks (gateChange s g c ask) := by
  rw [State.gateClaims, hc]
  rfl

theorem exec_gateClaimRequest (hs : s.startUp = .running) (ask : GateAsk) :
    exec (.gateClaimRequest g ask) s = .next ((s.take (.gateClaimRequest g ask)).gateClaims g ask) :=
  Gates.event_of_startUp (f := fun s => s.gateClaims g ask) hs

/-- A gate's claim is placed on each approach panel that can show its descriptor (R92). -/
theorem gateClaims_place (hc : s.cfg.gates.get g = some c) (hp : (s.cfg.panels.get p).isSome = true)
    (happroach : c.approach.get p = true) (husable : s.usable c.descriptor p = true) :
    Placed s.clock (s.displays.get p).claims ((s.gateClaims g .place).displays.get p).claims (.gate g) c.descriptor 15 ∧
      SameBut [.gate g] (s.displays.get p).claims ((s.gateClaims g .place).displays.get p).claims := by
  have hwarnable : s.warnable c p = true := by simp [State.warnable, happroach, husable]
  rw [gateClaims_eq hc, changeStacks_claims hp]
  simp only [gateChange, if_pos hwarnable]
  exact ⟨placeClaim_placed (gateClaim g c s.clock) _, placeClaim_sameBut (gateClaim g c s.clock) _⟩

/-- A panel that is not configured, does not face the gate, or cannot show its descriptor keeps its stack (R92). -/
theorem gateClaims_place_other (hc : s.cfg.gates.get g = some c)
    (hother : s.cfg.panels.get p = none ∨ c.approach.get p = false ∨ s.usable c.descriptor p = false) :
    (s.gateClaims g .place).displays.get p = s.displays.get p := by
  rw [gateClaims_eq hc]
  rcases hother with hp | happroach | husable
  · exact changeStacks_unfitted hp
  · exact changeStacks_same (if_neg (by simp [State.warnable, happroach]))
  · exact changeStacks_same (if_neg (by simp [State.warnable, husable]))

/-- A gate's claim is withdrawn from each approach panel (R92). -/
theorem gateClaims_withdraw (hc : s.cfg.gates.get g = some c) (hp : (s.cfg.panels.get p).isSome = true)
    (happroach : c.approach.get p = true) : Absent ((s.gateClaims g .withdraw).displays.get p).claims (.gate g) ∧
      SameBut [.gate g] (s.displays.get p).claims ((s.gateClaims g .withdraw).displays.get p).claims := by
  rw [gateClaims_eq hc, changeStacks_claims hp]
  simp only [gateChange, if_pos happroach]
  exact ⟨withdrawClaim_gone (.gate g) _, withdrawClaim_sameBut (.gate g) _⟩

theorem gateClaims_withdraw_other (hc : s.cfg.gates.get g = some c)
    (hother : s.cfg.panels.get p = none ∨ c.approach.get p = false) :
    (s.gateClaims g .withdraw).displays.get p = s.displays.get p := by
  rw [gateClaims_eq hc]
  rcases hother with hp | happroach
  · exact changeStacks_unfitted hp
  · exact changeStacks_same (if_neg (by simp [happroach]))

/-- A request of a fitted gate is a change to the stacks, and tells the leads as one. -/
theorem gateClaims_row (cmd : Instr) (hc : s.cfg.gates.get g = some c) (ask : GateAsk) :
    LeadsTold s ((s.take cmd).gateClaims g ask) (s.take cmd).told ∧
      { (s.take cmd).gateClaims g ask with displays := s.displays, told := s.told } = s := by
  rw [gateClaims_eq (s := s.take cmd) hc]
  exact stacks_row s cmd

end

/-- Settles O36: both are one change to the stacks, a filter, or the placing or the withdrawal of the gate's claim. -/
theorem postEndAndGateClaims : Obligations.PostEndAndGateClaims := by
  refine fun s hs => ⟨fun hminute => ?postEnd, fun g c hc => ⟨?place, ?withdraw⟩⟩
  case postEnd =>
    have hexec : exec .postEnd s = .next (s.take .postEnd).endPosts :=
      (Gates.event_of_startUp hs).trans (congrArg _ (if_pos hminute))
    exact ⟨_, hexec, fun p hp => changeStacks_claims (s := s.take .postEnd) hp,
      fun p hp => changeStacks_unfitted hp, stacks_row s _⟩
  case place =>
    exact ⟨_, exec_gateClaimRequest hs _,
      fun p hp happroach husable => gateClaims_place (s := s.take (.gateClaimRequest g .place)) hc hp happroach husable,
      fun p hother => gateClaims_place_other (s := s.take (.gateClaimRequest g .place)) hc hother,
      gateClaims_row _ hc .place⟩
  case withdraw =>
    exact ⟨_, exec_gateClaimRequest hs _,
      fun p hp happroach => gateClaims_withdraw (s := s.take (.gateClaimRequest g .withdraw)) hc hp happroach,
      fun p hother => gateClaims_withdraw_other (s := s.take (.gateClaimRequest g .withdraw)) hc hother,
      gateClaims_row _ hc .withdraw⟩

end Sys2Proof.Display

/-! Chapter 4: the weather rules and their claims (R88 to R90, R94). -/
namespace Sys2Proof.Display

open Machine Safety Orders

/-! ## Measured values (R94) -/

section
variable {s : State} {v : Int}

/-- A role has a valid value exactly while it is VALID and has a filtered one. -/
theorem validValue_eq_some_iff {r : Role} : s.validValue r = some v ↔
    (s.acq.roles.get r).validity = .valid ∧ (s.acq.roles.get r).filtered = some v := by
  unfold State.validValue
  split <;> simp [*]

/-- New snow has a value while the snow depth is VALID. -/
theorem measure_newSnow_eq_some_iff : s.measure .newSnow = some v ↔
    s.acq.roles.snowDepth.validity = .valid ∧ v = s.hazard.newSnow := by
  simp only [State.measure]
  split
  next h => simp [h, eq_comm]
  next h => simp [h]

/-- The measurands of one role have its value. -/
theorem measure_eq_some_iff {m : Measurand} {r : Role}
    (h : m = .roadTemp ∧ r = .roadTemp ∨ m = .airTemp ∧ r = .airTemp ∨ m = .wind ∧ r = .wind) :
    s.measure m = some v ↔ (s.acq.roles.get r).validity = .valid ∧ (s.acq.roles.get r).filtered = some v := by
  rcases h with ⟨rfl, rfl⟩ | ⟨rfl, rfl⟩ | ⟨rfl, rfl⟩ <;> exact validValue_eq_some_iff

end

/-! ## A rule's state (R89) -/

section
variable {r : RuleCfg} {v : Int}

theorem evaluateRule_atOrBelow (h : r.sense = .atOrBelow) :
    (evaluateRule r false (some v) = true ↔ v ≤ r.setValue) ∧
      (evaluateRule r true (some v) = false ↔ r.clearValue < v) := by
  simp [evaluateRule, h]

theorem evaluateRule_atOrAbove (h : r.sense = .atOrAbove) :
    (evaluateRule r false (some v) = true ↔ r.setValue ≤ v) ∧
      (evaluateRule r true (some v) = false ↔ v < r.clearValue) := by
  simp [evaluateRule, h]

end

section
variable {s : State} {p : Panel} {c : PanelCfg} {i : Nat} {r : RuleCfg}

theorem evaluateRules_ruleActive (i : Nat) : s.evaluateRules.ruleActive i = s.evaluatedRules.getD i false := rfl

/-- An evaluation leaves a configured rule in the state that its measurand gives. -/
theorem evaluatedRules_configured (hi : i < 8) (hr : s.cfg.rules[i]? = some r) :
    s.evaluatedRules.getD i false = evaluateRule r (s.ruleActive i) (s.measure r.measurand) := by
  simp [State.evaluatedRules, List.getD_eq_getElem?_getD, hi, hr]

/-- A rule that is not configured keeps its state, and beyond rule 7 there is none. -/
theorem evaluatedRules_unconfigured (hr : i < 8 → s.cfg.rules[i]? = none) :
    s.evaluatedRules.getD i false = (decide (i < 8) && s.ruleActive i) := by
  by_cases hi : i < 8
  · simp [State.evaluatedRules, List.getD_eq_getElem?_getD, hi, hr hi]
  · simp [State.evaluatedRules, List.getD_eq_getElem?_getD, hi]

/-! ## A rule's claims (R90) -/

/-- A rule that is not configured, or keeps its state, changes nothing in a stack. -/
theorem weatherClaim_same {new : List Bool} (h : ∀ r, s.cfg.rules[i]? = some r → new.getD i false = s.ruleActive i)
    (xs : List Claim) : s.weatherClaim new p c xs i = xs := by
  unfold State.weatherClaim
  split
  next r hr => simp only [h r hr, BEq.rfl, if_true]
  next => rfl

/-- A rule that becomes active places its claim on a panel on which it may. -/
theorem weatherClaim_active {new : List Bool} (hr : s.cfg.rules[i]? = some r) (hold : s.ruleActive i = false)
    (hnew : new.getD i false = true) (xs : List Claim) : s.weatherClaim new p c xs i =
      if s.ruleClaims i r p c then
        placeClaim { id := .weather i, descriptor := r.descriptor, priority := r.priority, placed := s.clock } xs
      else xs := by
  simp only [State.weatherClaim, hr, hold, hnew]
  rfl

/-- A rule that becomes inactive has its claim withdrawn. -/
theorem weatherClaim_inactive {new : List Bool} (hr : s.cfg.rules[i]? = some r) (hold : s.ruleActive i = true)
    (hnew : new.getD i false = false) (xs : List Claim) :
    s.weatherClaim new p c xs i = withdrawClaim (.weather i) xs := by
  simp only [State.weatherClaim, hr, hold, hnew]
  rfl

theorem weatherClaim_sameBut (new : List Bool) (xs : List Claim) (i : Nat) :
    SameBut [.weather i] xs (s.weatherClaim new p c xs i) := by
  unfold State.weatherClaim
  repeat' split
  · exact sameBut_refl
  · exact placeClaim_sameBut { id := .weather i, descriptor := _, priority := _, placed := _ } xs
  · exact sameBut_refl
  · exact withdrawClaim_sameBut _ xs
  · exact sameBut_refl

theorem ruleClaims_iff : s.ruleClaims i r p c = true ↔
    r.mask.get p = true ∧ i ∈ c.weatherMask ∧ s.usable r.descriptor p = true := by
  simp [State.ruleClaims, and_assoc]

/-! ## The claims after an evaluation -/

/-- The claims of a configured panel after WEATHER_RULE_EVALUATION. -/
theorem evaluateRules_claims (hc : s.cfg.panels.get p = some c) : (s.evaluateRules.displays.get p).claims =
    (List.range 8).foldl (s.weatherClaim s.evaluatedRules p c) (s.displays.get p).claims := by
  rw [evaluateRules_eq]
  dsimp only
  rw [changeStacks_claims (by simp [hc]), weatherChange, hc]

theorem evaluateRules_unfitted (hc : s.cfg.panels.get p = none) : s.evaluateRules.displays.get p = s.displays.get p := by
  rw [evaluateRules_eq]
  exact changeStacks_unfitted hc

theorem evaluateRules_sameBut (hc : s.cfg.panels.get p = some c) : SameBut ((List.range 8).map .weather)
    (s.displays.get p).claims (s.evaluateRules.displays.get p).claims := by
  rw [evaluateRules_claims hc]
  exact foldl_sameBut (weatherClaim_sameBut _) _

/-- Of the rules, a rule's own change decides its claims. -/
theorem evaluateRules_at (hc : s.cfg.panels.get p = some c) (hi : i < 8) :
    ∃ ys, ys.filter (fun x => x.id = .weather i) = (s.displays.get p).claims.filter (fun x => x.id = .weather i) ∧
      (s.evaluateRules.displays.get p).claims.filter (fun x => x.id = .weather i) =
        (s.weatherClaim s.evaluatedRules p c ys i).filter fun x => x.id = .weather i := by
  have hnodup : ((List.range 8).map ClaimId.weather).Nodup :=
    List.nodup_range.map fun _ _ h => ClaimId.weather.inj h
  rw [evaluateRules_claims hc]
  exact foldl_at (weatherClaim_sameBut _) hnodup (List.mem_range.mpr hi) _

/-- The claims of a rule stay where its change leaves every stack. -/
theorem evaluateRules_filter_same (hc : s.cfg.panels.get p = some c) (hi : i < 8)
    (h : ∀ ys, s.weatherClaim s.evaluatedRules p c ys i = ys) :
    (s.evaluateRules.displays.get p).claims.filter (fun x => x.id = .weather i) =
      (s.displays.get p).claims.filter fun x => x.id = .weather i := by
  obtain ⟨ys, hys, hnew⟩ := evaluateRules_at hc hi
  rw [hnew, h ys, hys]

/-- The claims of a rule that is not configured stay. -/
theorem evaluateRules_filter_unconfigured (hr : i < 8 → s.cfg.rules[i]? = none) (p : Panel) :
    (s.evaluateRules.displays.get p).claims.filter (fun x => x.id = .weather i) =
      (s.displays.get p).claims.filter fun x => x.id = .weather i := by
  cases hc : s.cfg.panels.get p with
  | none => rw [evaluateRules_unfitted hc]
  | some c =>
    by_cases hi : i < 8
    · exact evaluateRules_filter_same hc hi (weatherClaim_same fun r hr' => by rw [hr hi] at hr'; cases hr')
    · rw [evaluateRules_claims hc]
      exact foldl_filter_other (weatherClaim_sameBut _) (by simpa using hi) _

/-! ## A rule and its change of state (R89, R90) -/

/-- A rule whose measurand is invalid keeps its state. -/
theorem evaluateRules_unmeasured (hi : i < 8) (hr : s.cfg.rules[i]? = some r) (hnone : s.measure r.measurand = none) :
    s.evaluateRules.ruleActive i = s.ruleActive i := by
  rw [evaluateRules_ruleActive, evaluatedRules_configured hi hr, hnone]
  rfl

/-- A rule becomes active at its set value or beyond, and inactive beyond its clear value. -/
theorem evaluateRules_measured {v : Int} (hi : i < 8) (hr : s.cfg.rules[i]? = some r)
    (hv : s.measure r.measurand = some v) :
    (r.sense = .atOrBelow →
      (s.ruleActive i = false → (s.evaluateRules.ruleActive i = true ↔ v ≤ r.setValue)) ∧
      (s.ruleActive i = true → (s.evaluateRules.ruleActive i = false ↔ r.clearValue < v))) ∧
    (r.sense = .atOrAbove →
      (s.ruleActive i = false → (s.evaluateRules.ruleActive i = true ↔ r.setValue ≤ v)) ∧
      (s.ruleActive i = true → (s.evaluateRules.ruleActive i = false ↔ v < r.clearValue))) := by
  rw [evaluateRules_ruleActive, evaluatedRules_configured hi hr, hv]
  refine ⟨fun hsense => ?_, fun hsense => ?_⟩
  · obtain ⟨hset, hclear⟩ := evaluateRule_atOrBelow (v := v) hsense
    exact ⟨fun hold => by rwa [hold], fun hold => by rwa [hold]⟩
  · obtain ⟨hset, hclear⟩ := evaluateRule_atOrAbove (v := v) hsense
    exact ⟨fun hold => by rwa [hold], fun hold => by rwa [hold]⟩

/-- A rule that becomes active has its claim placed where it may claim, and its claims left elsewhere. -/
theorem evaluateRules_activated (hi : i < 8) (hr : s.cfg.rules[i]? = some r) (hc : s.cfg.panels.get p = some c)
    (hold : s.ruleActive i = false) (hnew : s.evaluateRules.ruleActive i = true) :
    (s.ruleClaims i r p c = true → Placed s.clock (s.displays.get p).claims (s.evaluateRules.displays.get p).claims
      (.weather i) r.descriptor r.priority) ∧
    (s.ruleClaims i r p c = false → (s.evaluateRules.displays.get p).claims.filter (fun x => x.id = .weather i) =
      (s.displays.get p).claims.filter fun x => x.id = .weather i) := by
  have hstep := weatherClaim_active (p := p) (c := c) (new := s.evaluatedRules) hr hold hnew
  refine ⟨fun hclaims => ?_, fun hclaims => evaluateRules_filter_same hc hi fun ys => ?_⟩
  · obtain ⟨ys, hys, hfilter⟩ := evaluateRules_at hc hi
    refine placed_congr ?_ hys.symm hfilter
    rw [hstep, if_pos hclaims]
    exact placeClaim_placed ..
  · rw [hstep, if_neg (Bool.eq_false_iff.mp hclaims)]

/-- A rule that becomes inactive holds no claim any more. -/
theorem evaluateRules_deactivated (hi : i < 8) (hr : s.cfg.rules[i]? = some r) (hc : s.cfg.panels.get p = some c)
    (hold : s.ruleActive i = true) (hnew : s.evaluateRules.ruleActive i = false) :
    Absent (s.evaluateRules.displays.get p).claims (.weather i) := by
  obtain ⟨ys, -, hfilter⟩ := evaluateRules_at hc hi
  refine absent_congr ?_ hfilter
  rw [weatherClaim_inactive (new := s.evaluatedRules) hr hold hnew]
  exact withdrawClaim_gone (.weather i) ys

theorem exec_weatherRuleEvaluation (hs : s.startUp = .running) (hminute : s.atMinute = true) :
    exec .weatherRuleEvaluation s = .next (s.take .weatherRuleEvaluation).evaluateRules :=
  (Gates.event_of_startUp hs).trans (congrArg _ (if_pos hminute))

/-- An evaluation changes the stacks, the rules and the messages only, and tells the leads as R83 gives. -/
theorem evaluateRules_row (s : State) (cmd : Instr) : LeadsTold s (s.take cmd).evaluateRules (s.take cmd).told ∧
    { (s.take cmd).evaluateRules with displays := s.displays, rules := s.rules, told := s.told } = s := by
  obtain ⟨hleads, hframe⟩ := stacks_row s (F := weatherChange (s.take cmd)) cmd
  rw [evaluateRules_eq]
  exact ⟨hleads, congrArg (fun u : State => { u with rules := s.rules }) hframe⟩

end

/-- Settles O35: each rule's state is its own evaluation, and each rule's claims follow the change of its state. -/
theorem weatherRules : Obligations.WeatherRules := by
  intro s hs hminute
  refine ⟨fun m r h v => measure_eq_some_iff h, fun v => measure_newSnow_eq_some_iff, _, exec_weatherRuleEvaluation hs hminute,
    fun i r hi hr => ⟨?unmeasured, ?measured, fun p c hc => ⟨?stays, ?placed, ?notPlaced, ?withdrawn⟩⟩,
    fun i hr => ⟨?state, ?claims⟩, fun p c hc => ?sameBut, fun p hc => ?unfitted,
    evaluateRules_row s .weatherRuleEvaluation⟩
  case unmeasured => exact evaluateRules_unmeasured (s := s.take .weatherRuleEvaluation) hi hr
  case measured => exact fun v => evaluateRules_measured (s := s.take .weatherRuleEvaluation) hi hr
  case stays =>
    exact fun hstay => evaluateRules_filter_same (s := s.take .weatherRuleEvaluation) hc hi
      (weatherClaim_same fun _ _ => hstay)
  case placed =>
    exact fun hold hnew hmask hin hshow =>
      (evaluateRules_activated (s := s.take .weatherRuleEvaluation) hi hr hc hold hnew).1
        (ruleClaims_iff.mpr ⟨hmask, hin, hshow⟩)
  case notPlaced =>
    refine fun hold hnew hnot =>
      (evaluateRules_activated (s := s.take .weatherRuleEvaluation) hi hr hc hold hnew).2 ?_
    rw [← Bool.not_eq_true, ruleClaims_iff]
    rintro ⟨hmask, hin, hshow⟩
    rcases hnot with h | h | h
    · exact nomatch hmask.symm.trans h
    · exact h hin
    · exact nomatch hshow.symm.trans h
  case withdrawn => exact evaluateRules_deactivated (s := s.take .weatherRuleEvaluation) hi hr hc
  case state => exact evaluatedRules_unconfigured (s := s.take .weatherRuleEvaluation) hr
  case claims => exact evaluateRules_filter_unconfigured (s := s.take .weatherRuleEvaluation) hr
  case sameBut => exact evaluateRules_sameBut (s := s.take .weatherRuleEvaluation) hc
  case unfitted => exact evaluateRules_unfitted (s := s.take .weatherRuleEvaluation) hc

end Sys2Proof.Display

/-! Chapter 4: the number shown for a value, message texts, field texts and accessed marks (R76 to R78, R94 to R97). -/
namespace Sys2Proof.Display

open Machine Safety Orders

/-! ## Decimal digits (R96) -/

theorem byte_digit_toNat {d : Nat} (hd : d < 10) : (byte (0x30 + d)).toNat = 0x30 + d := by
  simp only [byte, BitVec.toNat_ofNat]
  omega

theorem digits_of_lt_ten {n : Nat} (hn : n < 10) : digits n = [byte (0x30 + n)] := by
  have hzero (k : Nat) (hk : 10 ≤ k) : n / k % 10 = 0 := by rw [Nat.div_eq_of_lt (by omega)]
  simp [digits, hzero 10000, hzero 1000, hzero 100, hzero 10, Nat.mod_eq_of_lt hn]

/-- A number of more than one digit is the number without its last digit, and its last digit. -/
theorem digits_of_ten_le {n : Nat} (hten : 10 ≤ n) (hn : n < 100000) :
    digits n = digits (n / 10) ++ [byte (0x30 + n % 10)] := by
  have hfirst : n / 10 / 10000 % 10 = 0 := by omega
  have hshift (k : Nat) : n / 10 / k = n / (10 * k) := Nat.div_div_eq_div_mul ..
  simp only [digits, List.map_cons, List.map_nil, hfirst]
  simp only [hshift]
  by_cases h4 : n / 10000 % 10 = 0
  · by_cases h3 : n / 1000 % 10 = 0
    · by_cases h2 : n / 100 % 10 = 0
      · have h1 : n / 10 % 10 ≠ 0 := by omega
        simp [h4, h3, h2, h1]
      · simp [h4, h3, h2]
    · simp [h4, h3]
  · simp [h4]

/-- What holds of the one-digit numbers and is kept by a further digit holds of every number below 100000. -/
theorem digits_induction {P : Nat → List Byte → Prop} (hsmall : ∀ n < 10, P n [byte (0x30 + n)])
    (hstep : ∀ n, 10 ≤ n → n < 100000 → P (n / 10) (digits (n / 10)) →
      P n (digits (n / 10) ++ [byte (0x30 + n % 10)])) (n : Nat) (hn : n < 100000) : P n (digits n) := by
  induction n using Nat.strongRecOn with
  | ind n ih =>
    by_cases hten : 10 ≤ n
    · rw [digits_of_ten_le hten hn]
      exact hstep n hten hn (ih (n / 10) (by omega) (by omega))
    · rw [digits_of_lt_ten (by omega)]
      exact hsmall n (by omega)

theorem digits_ne_nil {n : Nat} (hn : n < 100000) : digits n ≠ [] :=
  digits_induction (P := fun _ ds => ds ≠ []) (by simp) (by simp) n hn

/-- Every digit is a decimal digit. -/
theorem digits_range {n : Nat} (hn : n < 100000) : ∀ c ∈ digits n, 0x30 ≤ c.toNat ∧ c.toNat ≤ 0x39 := by
  have hdigit (d : Nat) (hd : d < 10) : 0x30 ≤ (byte (0x30 + d)).toNat ∧ (byte (0x30 + d)).toNat ≤ 0x39 := by
    rw [byte_digit_toNat hd]
    omega
  refine digits_induction (P := fun _ ds => ∀ c ∈ ds, 0x30 ≤ c.toNat ∧ c.toNat ≤ 0x39) (fun n hn => ?_)
    (fun n _ _ ih => ?_) n hn
  · simpa using hdigit n hn
  · simp only [List.forall_mem_append, List.forall_mem_singleton]
    exact ⟨ih, hdigit _ (by omega)⟩

/-- The digits of a number read as that number. -/
theorem digits_value {n : Nat} (hn : n < 100000) : (digits n).foldl (fun n c => 10 * n + (c.toNat - 0x30)) 0 = n := by
  refine digits_induction (P := fun n ds => ds.foldl (fun n c => 10 * n + (c.toNat - 0x30)) 0 = n) (fun n hn => ?_)
    (fun n _ _ ih => ?_) n hn
  · simp [byte_digit_toNat hn]
  · rw [List.foldl_append, ih, List.foldl_cons, List.foldl_nil, byte_digit_toNat (by omega)]
    omega

/-- A positive number does not begin with a 0. -/
theorem digits_head_of_pos {n : Nat} (hn : n < 100000) : 0 < n → (digits n).head? ≠ some 0x30#8 := by
  refine digits_induction (P := fun n ds => 0 < n → ds.head? ≠ some 0x30#8) (fun n hn hpos hzero => ?_)
    (fun n hten hn ih _ => ?_) n hn
  · have hd := byte_digit_toNat hn
    rw [Option.some.inj hzero, BitVec.toNat_ofNat] at hd
    omega
  · rw [List.head?_append_of_ne_nil _ (digits_ne_nil (by omega))]
    exact ih (by omega)

/-- Only 0 begins with a 0. -/
theorem digits_head {n : Nat} (hn : n < 100000) (h : (digits n).head? = some 0x30#8) : digits n = [0x30#8] := by
  obtain rfl : n = 0 := Nat.eq_zero_of_not_pos fun hpos => digits_head_of_pos hn hpos h
  decide

/-- A number below a power of ten has no more digits than its exponent. -/
theorem digits_length_le {n k : Nat} (hn : n < 100000) (hk : 1 ≤ k) (hlt : n < 10 ^ k) : (digits n).length ≤ k := by
  refine digits_induction (P := fun n ds => ∀ k, 1 ≤ k → n < 10 ^ k → ds.length ≤ k) (fun n _ k hk _ => by simpa using hk)
    (fun n hten _ ih k hk hlt => ?_) n hn k hk hlt
  obtain ⟨j, rfl⟩ : ∃ j, k = j + 1 := ⟨k - 1, by omega⟩
  have hj : 1 ≤ j := by
    by_contra hj
    obtain rfl : j = 0 := by omega
    omega
  rw [pow_succ] at hlt
  have hlen := ih j hj (by omega)
  simp only [List.length_append, List.length_cons, List.length_nil]
  omega

/-- The largest number of some digits is all nines. -/
theorem digits_nines {k : Nat} (hpos : 1 ≤ k) (hk : k ≤ 5) : digits (10 ^ k - 1) = List.replicate k 0x39#8 := by
  obtain rfl | rfl | rfl | rfl | rfl : k = 1 ∨ k = 2 ∨ k = 3 ∨ k = 4 ∨ k = 5 := by omega
  all_goals decide

/-! ## A number in a field (R96) -/

section
variable {w : Nat} {x : Int}

theorem writeNumber_of_nonneg (hx : 0 ≤ x) : writeNumber w x =
    List.replicate (w - (digits (min x.natAbs (10 ^ w - 1))).length) 0x20#8 ++ digits (min x.natAbs (10 ^ w - 1)) := by
  simp only [writeNumber, if_neg (not_lt.mpr hx)]

theorem writeNumber_of_neg (hx : x < 0) : writeNumber w x =
    List.replicate (w - ((digits (min x.natAbs (10 ^ (w - 1) - 1))).length + 1)) 0x20#8 ++
      0x2D#8 :: digits (min x.natAbs (10 ^ (w - 1) - 1)) := by
  simp only [writeNumber, if_pos hx, List.length_cons]

/-- The powers of ten that a field of 2 to 5 cells can hold. -/
theorem ten_pow_le (hw : w ≤ 5) : 10 ^ w ≤ 100000 := Nat.pow_le_pow_right (by decide) hw

theorem writeNumber_length (hw : 2 ≤ w) (hw' : w ≤ 5) : (writeNumber w x).length = w := by
  have hpow := ten_pow_le hw'
  have hpow' := ten_pow_le (w := w - 1) (by omega)
  have hpos := Nat.pow_pos (n := w) (show 0 < 10 by decide)
  have hpos' := Nat.pow_pos (n := w - 1) (show 0 < 10 by decide)
  by_cases hx : x < 0
  · have hlen := digits_length_le (n := min x.natAbs (10 ^ (w - 1) - 1)) (k := w - 1) (by omega) (by omega) (by omega)
    simp only [writeNumber_of_neg hx, List.length_append, List.length_replicate, List.length_cons]
    omega
  · have hlen := digits_length_le (n := min x.natAbs (10 ^ w - 1)) (k := w) (by omega) (by omega) (by omega)
    simp only [writeNumber_of_nonneg (not_lt.mp hx), List.length_append, List.length_replicate]
    omega

/-- A number too large for its field is shown as nines (R96). -/
theorem writeNumber_saturated (hw : 2 ≤ w) (hw' : w ≤ 5) (hx : 10 ^ w ≤ x) :
    writeNumber w x = List.replicate w 0x39#8 := by
  have hpos := Nat.pow_pos (n := w) (show 0 < 10 by decide)
  have hx' : ((10 ^ w : Nat) : Int) ≤ x := by simpa using hx
  rw [writeNumber_of_nonneg (by omega), min_eq_right (by omega), digits_nines (by omega) hw']
  simp

/-- A negative number too large for its field is shown as a minus sign and nines (R96). -/
theorem writeNumber_saturated_neg (hw : 2 ≤ w) (hw' : w ≤ 5) (hx : x ≤ -10 ^ (w - 1)) :
    writeNumber w x = 0x2D#8 :: List.replicate (w - 1) 0x39#8 := by
  have hpos := Nat.pow_pos (n := w - 1) (show 0 < 10 by decide)
  have hx' : x ≤ -((10 ^ (w - 1) : Nat) : Int) := by simpa using hx
  rw [writeNumber_of_neg (by omega), min_eq_right (by omega), digits_nines (by omega) (by omega)]
  simp [show w - (w - 1 + 1) = 0 by omega]

/-- The text of a number that its field can show: spaces, its sign and its digits (R96). -/
def NumberText (x : Int) (text : List Byte) : Prop :=
  ∃ (pad : Nat) (ds : List Byte), text = List.replicate pad 0x20#8 ++ (if x < 0 then [0x2D#8] else []) ++ ds ∧ ds ≠ [] ∧
    (∀ c ∈ ds, 0x30 ≤ c.toNat ∧ c.toNat ≤ 0x39) ∧ (ds.head? = some 0x30#8 → ds = [0x30#8]) ∧
    ds.foldl (fun n c => 10 * n + (c.toNat - 0x30)) 0 = x.natAbs

theorem writeNumber_shown (hw' : w ≤ 5) (hlow : -10 ^ (w - 1) < x) (hhigh : x < 10 ^ w) :
    NumberText x (writeNumber w x) := by
  have hpow := ten_pow_le hw'
  have hpow' := ten_pow_le (w := w - 1) (by omega)
  have hlow' : -((10 ^ (w - 1) : Nat) : Int) < x := by simpa using hlow
  have hhigh' : x < ((10 ^ w : Nat) : Int) := by simpa using hhigh
  have hdigits (pad : Nat) (hn : x.natAbs < 100000) (h : writeNumber w x =
      List.replicate pad 0x20#8 ++ (if x < 0 then [0x2D#8] else []) ++ digits x.natAbs) : NumberText x (writeNumber w x) :=
    ⟨pad, _, h, digits_ne_nil hn, digits_range hn, digits_head hn, digits_value hn⟩
  by_cases hx : x < 0
  · refine hdigits (w - ((digits x.natAbs).length + 1)) (by omega) ?_
    rw [writeNumber_of_neg hx, min_eq_left (by omega), if_pos hx, List.append_assoc]
    rfl
  · refine hdigits (w - (digits x.natAbs).length) (by omega) ?_
    rw [writeNumber_of_nonneg (not_lt.mp hx), min_eq_left (by omega), if_neg hx, List.append_nil]

end

/-! ## Message texts (R77) -/

/-- The items of a numbered list up to the first that fails a test. -/
theorem takeWhile_map_range {α : Type} (keep : α → Bool) (f : Nat → α) (m : Nat) : ∃ n ≤ m,
    ((List.range m).map f).takeWhile keep = (List.range n).map f ∧ (∀ i < n, keep (f i) = true) ∧
      (n < m → keep (f n) = false) := by
  induction m with
  | zero => exact ⟨0, le_refl 0, rfl, fun i hi => absurd hi (Nat.not_lt_zero i), fun h => absurd h (Nat.lt_irrefl 0)⟩
  | succ m ih =>
    obtain ⟨n, hn, htake, hkept, hstop⟩ := ih
    rw [List.range_succ, List.map_append, List.map_singleton, List.takeWhile_append, htake]
    simp only [List.length_map, List.length_range]
    split
    next hall =>
      subst hall
      cases hlast : keep (f n)
      · exact ⟨n, by omega, by simp [hlast], hkept, fun _ => hlast⟩
      · refine ⟨n + 1, le_refl _, by simp [hlast, List.range_succ], fun i hi => ?_, fun h => absurd h (Nat.lt_irrefl _)⟩
        rcases Nat.lt_succ_iff_lt_or_eq.mp hi with hi | rfl
        · exact hkept i hi
        · exact hlast
    next hsome => exact ⟨n, by omega, rfl, hkept, fun _ => hstop (by omega)⟩

section
variable (s : State) (d : DescriptorCfg)

theorem span_eq : span d = spanCells d := by
  unfold span spanCells
  cases d.granularity <;> rfl

/-- The cells of a span, each with its code. -/
theorem spanCells_eq : s.spanCells d = (List.range (spanCells d)).map (spanCode s d) := by
  unfold State.spanCells
  rw [span_eq]
  refine List.map_congr_left fun i _ => ?_
  unfold spanCode
  cases d.field with
  | none => rfl
  | some f => simp only [Bool.and_eq_true, decide_eq_true_eq, cellCode]

/-- A message text is the cells of its span up to the first end mark. -/
theorem messageText_cells (s : State) (d : Nat) : ∃ n ≤ spanCells (s.descriptor d).cfg,
    s.messageText d = (List.range n).map (spanCode s (s.descriptor d).cfg) ∧
    (∀ i < n, spanCode s (s.descriptor d).cfg i ≠ 0x00#8) ∧
    (n < spanCells (s.descriptor d).cfg → spanCode s (s.descriptor d).cfg n = 0x00#8) := by
  unfold State.messageText
  rw [spanCells_eq]
  simpa using takeWhile_map_range (fun c : Byte => c != 0x00#8) (spanCode s (s.descriptor d).cfg) _

/-- A field shows dashes, or the number of its value. -/
theorem fieldText_eq (f : FieldCfg) : (s.measure f.measurand = none → s.fieldText f = List.replicate f.width 0x2D#8) ∧
    ∀ v, s.measure f.measurand = some v → s.fieldText f = writeNumber f.width (shownNumber f.measurand v) := by
  unfold State.fieldText
  exact ⟨fun h => by rw [h], fun v h => by rw [h]⟩

end

/-! ## Field texts handed over and accessed marks (R78, R94) -/

section
variable {s : State} {p : Panel}

/-- The text of a lead is handed over where it differs from the one last handed. -/
theorem reformat_lead {c : Claim} {rest : List Claim} (hlead : (s.displays.get p).claims = c :: rest) :
    s.reformat p = if (s.displays.get p).handed = some (s.messageText c.descriptor) then s
      else { s with
        displays := s.displays.set p ⟨c :: rest, some (s.messageText c.descriptor)⟩
        told := s.told ++ [.renderTrigger p (some ⟨⟨c.id, c.descriptor, c.placed⟩, s.messageText c.descriptor,
          (s.descriptor c.descriptor).cfg.flash⟩)] } := by
  unfold State.reformat
  simp only [hlead, List.head?_cons]
  rfl

theorem reformat_empty (hnone : (s.displays.get p).claims = []) : s.reformat p = s := by
  unfold State.reformat
  rw [hnone]
  rfl

theorem exec_fieldReformat (hs : s.startUp = .running) :
    exec (.fieldReformat p) s = .next ((s.take (.fieldReformat p)).reformat p) :=
  Gates.event_of_startUp (f := fun s => s.reformat p) hs

theorem exec_accessedMark (hs : s.startUp = .running) (d : Nat) :
    exec (.accessedMark d) s = .next ((s.take (.accessedMark d)).mark d true) :=
  Gates.event_of_startUp (f := fun s => s.mark d true) hs

end

/-- Settles O37: the text and the number by their own lemmas, and each row by what it does to the running station. -/
theorem fieldTextAndMark : Obligations.FieldTextAndMark := by
  refine ⟨messageText_cells, fieldText_eq, fun w x hw hw' => ?number, fun s hs => ⟨fun p c rest hlead => ?lead,
    fun p hnone => ?empty, fun d => exec_accessedMark hs d⟩⟩
  case number =>
    exact ⟨writeNumber_length hw hw', writeNumber_saturated hw hw', writeNumber_saturated_neg hw hw',
      writeNumber_shown hw'⟩
  case lead => exact (exec_fieldReformat hs).trans (congrArg _ (reformat_lead (s := s.take (.fieldReformat p)) hlead))
  case empty => exact (exec_fieldReformat hs).trans (congrArg _ (reformat_empty (s := s.take (.fieldReformat p)) hnone))

/-! ## The number shown for a value (R95) -/

theorem wholeDegrees_of_nonneg {t : Int} (ht : 0 ≤ t) : wholeDegrees t = (t + 5) / 10 := if_pos ht

theorem wholeDegrees_of_neg {t : Int} (ht : t < 0) : wholeDegrees t = -((-t + 5) / 10) := if_neg (not_le.mpr ht)

/-- Halves are rounded away from zero, so a value and its negative show numbers of opposite sign. -/
theorem wholeDegrees_neg (t : Int) : wholeDegrees (-t) = -wholeDegrees t := by
  unfold wholeDegrees
  split_ifs <;> omega

/-- The number shown is less than one whole degree from the value, and half a degree at most. -/
theorem wholeDegrees_near (t : Int) : 10 * (wholeDegrees t - 1) < t + 5 ∧ t - 5 < 10 * (wholeDegrees t + 1) := by
  unfold wholeDegrees
  split_ifs <;> omega

/-- A 0 is one digit without a sign. -/
theorem writeNumber_zero {w : Nat} : writeNumber w 0 = List.replicate (w - 1) 0x20#8 ++ [0x30#8] := by
  have hzero : digits 0 = [0x30#8] := by decide
  rw [writeNumber_of_nonneg (le_refl 0)]
  simp [hzero]

/-- Settles O38: each measurand by its rule, with the model's division, which is a floor division for a positive divisor. -/
theorem shownNumbers : Obligations.ShownNumbers := by
  have hfloor (a b : Int) (hb : 0 ≤ b) : a.fdiv b = a / b := Int.fdiv_eq_ediv_of_nonneg a hb
  refine ⟨fun t => ⟨fun ht => ?nonneg, fun ht => ?neg, wholeDegrees_neg t, wholeDegrees_near t⟩, fun v => ⟨?wind, ?windSign⟩,
    fun n => rfl, fun m x w _ hzero => ?zero⟩
  case nonneg =>
    rw [hfloor _ 10 (by decide)]
    exact ⟨wholeDegrees_of_nonneg ht, wholeDegrees_of_nonneg ht⟩
  case neg =>
    rw [hfloor _ 10 (by decide)]
    exact ⟨wholeDegrees_of_neg ht, wholeDegrees_of_neg ht⟩
  case wind => exact (hfloor _ 100 (by decide)).symm
  case windSign =>
    intro hv
    show 0 ≤ (v * 36 + 50) / 100
    omega
  case zero => rw [hzero, writeNumber_zero]

/-! ## READ_DESCRIPTOR (R78, R97) -/

/-- Settles O26: the served request answers the descriptor as it stood and clears its mark. -/
theorem readDescriptorClearsMark : Obligations.ReadDescriptorClearsMark := by
  intro s d hserves
  obtain ⟨hs, hport⟩ := hserves
  have hexec : exec (.readDescriptor d) s = .next (if d < 64 then
      ((s.take (.readDescriptor d)).mark d false).respond .ok (descriptorData (s.descriptor d))
      else (s.take (.readDescriptor d)).respond .badIndex []) :=
    s.serve_running _ (fun s => if d < 64 then (s.mark d false).respond .ok (descriptorData (s.descriptor d))
      else s.respond .badIndex []) (by simp [State.running, hs]) hport
  exact ⟨fun hd => hexec.trans (congrArg _ (if_pos hd)), fun hd => hexec.trans (congrArg _ (if_neg (not_lt.mpr hd)))⟩

end Sys2Proof.Display

/-! Chapters 4 and 5: the frame start, with the swap of a ready render and the flash phase (R78, R103 to R105, R107). -/
namespace Sys2Proof.Display

open Machine Safety Orders

section
variable {x : PanelRec} {now : Nat}

/-! ## The swap (R103, R104) -/

/-- A swap to a blank image leaves the panel DARK with no lead-shown time. -/
theorem swap_of_blank (h : x.back.claim = none) : x.swap now =
    { x with front := x.back, back := {}, render := .idle, state := .dark, leadShown := none } := by
  simp only [PanelRec.swap, h]

/-- A swap to a new image of the claim shown keeps the lead-shown time and the phase. -/
theorem swap_of_same (h : x.back.claim ≠ none) (hsame : x.back.claim = x.front.claim) :
    x.swap now = { x with front := x.back, back := {}, render := .idle, state := .showing } := by
  obtain ⟨r, hr⟩ := Option.ne_none_iff_exists'.mp h
  rw [hr] at hsame
  simp only [PanelRec.swap, hr, ← hsame, if_true]

/-- A swap to a new claim sets the lead-shown time and restarts the phase. -/
theorem swap_of_new (h : x.back.claim ≠ none) (hnew : x.back.claim ≠ x.front.claim) : x.swap now =
    { x with
      front := x.back, back := {}, render := .idle, state := .showing, leadShown := some now, phase := .shown
      phaseFrom := now, phaseDue := false } := by
  obtain ⟨r, hr⟩ := Option.ne_none_iff_exists'.mp h
  rw [hr] at hnew
  simp only [PanelRec.swap, hr, if_neg hnew]

theorem swap_front : (x.swap now).front = x.back := by
  by_cases hblank : x.back.claim = none
  · rw [swap_of_blank hblank]
  · by_cases hsame : x.back.claim = x.front.claim
    · rw [swap_of_same hblank hsame]
    · rw [swap_of_new hblank hsame]

/-! ## The phase and the driven image (R105, R107) -/

theorem turnPhase_of_due (hstate : x.state = .showing) (hflash : x.front.flash = true) (hdue : x.phaseDue = true) :
    x.turnPhase = { x with phase := x.phase.other, phaseDue := false } := by
  simp [PanelRec.turnPhase, hstate, hflash, hdue]

theorem turnPhase_of_not_due (h : x.state ≠ .showing ∨ x.front.flash = false ∨ x.phaseDue = false) : x.turnPhase = x := by
  rcases h with h | h | h <;> simp [PanelRec.turnPhase, h]

theorem fixDriven_driven : (x.fixDriven now).driven = true ↔
    (x.fixDriven now).state = .showing ∧ ((x.fixDriven now).front.flash = false ∨ (x.fixDriven now).phase = .shown) := by
  simp [PanelRec.fixDriven]

/-- The record that a frame start leaves, from the one with any swap made. -/
def framed (x : PanelRec) (now : Nat) : PanelRec := x.turnPhase.fixDriven now

theorem framed_of_due (hstate : x.state = .showing) (hflash : x.front.flash = true) (hdue : x.phaseDue = true) :
    (framed x now).phase = x.phase.other ∧ (framed x now).phaseDue = false := by
  rw [framed, turnPhase_of_due hstate hflash hdue]
  exact ⟨rfl, rfl⟩

theorem framed_of_not_due (h : x.state ≠ .showing ∨ x.front.flash = false ∨ x.phaseDue = false) :
    (framed x now).phase = x.phase ∧ (framed x now).phaseDue = x.phaseDue := by
  rw [framed, turnPhase_of_not_due h]
  exact ⟨rfl, rfl⟩

/-- A frame start touches the phase, the driven image and the position of the scan only. -/
theorem framed_eq (x : PanelRec) (now : Nat) : framed x now = { x with
    phase := (framed x now).phase, phaseDue := (framed x now).phaseDue, driven := (framed x now).driven
    frameAt := some now, slotStep := x.step, sampled := false } := by
  unfold framed PanelRec.turnPhase
  split <;> rfl

end

/-! ## What a frame start leaves -/

/-- What the record of a panel keeps over a frame start with or without a swap. -/
def FrameKeeps (x y : PanelRec) : Prop :=
  y.step = x.step ∧ y.misses = x.misses ∧ y.pendingLead = x.pendingLead ∧ y.cause = x.cause ∧ y.faultRow = x.faultRow

/-- What a frame start leaves of the images, the state and the phase where a render is ready. -/
def Swapped (now : Nat) (x y : PanelRec) : Prop :=
  y.front = x.back ∧ y.back = ⟨none, false, []⟩ ∧ y.render = .idle ∧
    (x.back.claim = none → y.state = .dark ∧ y.leadShown = none) ∧
    (x.back.claim ≠ none → y.state = .showing) ∧
    (x.back.claim ≠ none → x.back.claim = x.front.claim → y.leadShown = x.leadShown) ∧
    (x.back.claim ≠ none → x.back.claim ≠ x.front.claim →
      y.leadShown = some now ∧ y.phase = .shown ∧ y.phaseFrom = now ∧ y.phaseDue = false) ∧
    (x.back.claim ≠ none → x.back.claim = x.front.claim →
      y.leadShown = x.leadShown ∧ y.phaseFrom = x.phaseFrom ∧
      (x.back.flash = true → x.phaseDue = true → y.phase = x.phase.other ∧ y.phaseDue = false) ∧
      ((x.back.flash = false ∨ x.phaseDue = false) → y.phase = x.phase ∧ y.phaseDue = x.phaseDue)) ∧
    (x.back.claim = none → y.phase = x.phase ∧ y.phaseFrom = x.phaseFrom ∧ y.phaseDue = x.phaseDue)

/-- What a frame start leaves where no render is ready. -/
def Continued (x y : PanelRec) : Prop :=
  y.front = x.front ∧ y.back = x.back ∧ y.render = x.render ∧ y.state = x.state ∧ y.leadShown = x.leadShown ∧
    y.phaseFrom = x.phaseFrom ∧
    (x.state = .showing → x.front.flash = true → x.phaseDue = true → y.phase = x.phase.other ∧ y.phaseDue = false) ∧
    ((x.state ≠ .showing ∨ x.front.flash = false ∨ x.phaseDue = false) → y.phase = x.phase ∧ y.phaseDue = x.phaseDue)

theorem swap_keeps (x : PanelRec) (now : Nat) : FrameKeeps x (x.swap now) := by
  by_cases hblank : x.back.claim = none
  · rw [swap_of_blank hblank]
    exact ⟨rfl, rfl, rfl, rfl, rfl⟩
  · by_cases hsame : x.back.claim = x.front.claim
    · rw [swap_of_same hblank hsame]
      exact ⟨rfl, rfl, rfl, rfl, rfl⟩
    · rw [swap_of_new hblank hsame]
      exact ⟨rfl, rfl, rfl, rfl, rfl⟩

theorem framed_keeps {x y : PanelRec} (now : Nat) (h : FrameKeeps x y) : FrameKeeps x (framed y now) := by
  rw [framed_eq]
  exact h

/-- A frame start without a swap leaves the images (R105, R107). -/
theorem framed_continued (x : PanelRec) (now : Nat) : Continued x (framed x now) := by
  refine ⟨?_, ?_, ?_, ?_, ?_, ?_, framed_of_due, framed_of_not_due⟩ <;> rw [framed_eq]

/-- A frame start with a ready render swaps it (R103, R104, R107). -/
theorem framed_swapped (x : PanelRec) (now : Nat) : Swapped now x (framed (x.swap now) now) := by
  obtain ⟨hfront, hback, hrender, hstate, hlead, hfrom, hdue, hstay⟩ := framed_continued (x.swap now) now
  unfold Swapped
  rw [hfront, hback, hrender, hstate, hlead, hfrom]
  by_cases hblank : x.back.claim = none
  · rw [swap_of_blank hblank] at hstay ⊢
    obtain ⟨hphase, hdue⟩ := hstay (.inl nofun)
    exact ⟨rfl, rfl, rfl, fun _ => ⟨rfl, rfl⟩, fun h => absurd hblank h, fun h => absurd hblank h,
      fun h => absurd hblank h, fun h => absurd hblank h, fun _ => ⟨hphase, rfl, hdue⟩⟩
  · by_cases hsame : x.back.claim = x.front.claim
    · rw [swap_of_same hblank hsame] at hdue hstay ⊢
      exact ⟨rfl, rfl, rfl, fun h => absurd h hblank, fun _ => rfl, fun _ _ => rfl, fun _ h => absurd hsame h,
        fun _ _ => ⟨rfl, rfl, hdue rfl, fun h => hstay (.inr h)⟩, fun h => absurd h hblank⟩
    · rw [swap_of_new hblank hsame] at hstay ⊢
      obtain ⟨hphase, hdue⟩ := hstay (.inr (.inr rfl))
      exact ⟨rfl, rfl, rfl, fun h => absurd h hblank, fun _ => rfl, fun _ h => absurd h hsame,
        fun _ _ => ⟨rfl, hphase, rfl, hdue⟩, fun _ h => absurd h hsame, fun h => absurd h hblank⟩

/-! ## What the Panel Driver tells (R78, R103) -/

section
variable {s : State} {p : Panel} {c : PanelCfg}

/-- The record of the panel at a frame start, with a ready render swapped. -/
def nextFrame (x : PanelRec) (now : Nat) : PanelRec := framed (if x.render = .ready then x.swap now else x) now

/-- A frame start replaces the panel's record, and tells of a swap. -/
theorem startFrame_eq : s.startFrame p = (s.setPanel p (nextFrame (s.panels.get p) s.clock)).tell
    (if (s.panels.get p).render = .ready then swapReports p (s.panels.get p) ((s.panels.get p).swap s.clock) else []) := by
  unfold State.startFrame nextFrame
  dsimp only
  split
  · rfl
  · simp only [State.tell, List.append_nil]
    rfl

/-- A swap is told to the Claim Unit where it shows a claim, and to the gates where the claim is another one. -/
theorem swapReports_eq (x : PanelRec) (now : Nat) : swapReports p x (x.swap now) =
    (x.back.claim.map fun r => Instr.accessedMark r.descriptor).toList ++
      (if x.back.claim = x.front.claim then [] else [.leadStateReport p]) := by
  unfold swapReports
  rw [swap_front]
  simp only [eq_comm (a := x.front.claim)]
  cases x.back.claim <;> rfl

theorem frameDue_of {x : PanelRec} {now : Nat} (h : ∀ u, x.frameAt = some u → u + c.rows * 1000 ≤ now) :
    x.frameDue c now = true := by
  unfold PanelRec.frameDue
  split
  · rfl
  next u hu => exact (hasRun_iff ..).mpr (h u hu)

theorem exec_frameStart (hs : s.startUp = .running) (hc : s.cfg.panels.get p = some c)
    (hdue : (s.panels.get p).frameDue c s.clock = true) :
    exec (.frameStart p) s = .next ((s.take (.frameStart p)).startFrame p) := by
  show execFrameStart p s = _
  rw [execFrameStart, Gates.event_of_startUp hs]
  simp only [State.take_cfg, hc, State.take_panels, State.take_clock, hdue, if_true]

end

/-- Settles O40: the record is swapped where a render is ready, and then framed. -/
theorem frameStartSwaps : Obligations.FrameStartSwaps := by
  intro s p c x hs hc hx _ hframe
  subst hx
  refine ⟨_, nextFrame (s.panels.get p) s.clock, exec_frameStart hs hc (frameDue_of hframe), ?record, fun hready => ?ready,
    fun hnot => ?notReady, fixDriven_driven, ?_⟩
  case record => simp [startFrame_eq]
  case ready =>
    have hnext : nextFrame (s.panels.get p) s.clock = framed ((s.panels.get p).swap s.clock) s.clock := by
      rw [nextFrame, if_pos hready]
    obtain ⟨hfront, hback, hrender, hdark, hshow, hlead, hnew, hsame, hblank⟩ := framed_swapped (s.panels.get p) s.clock
    rw [hnext]
    refine ⟨hfront, hback, hrender, hdark, hshow, hlead, hnew, hsame, hblank, ?_⟩
    rw [startFrame_eq, State.take_panels, if_pos hready, swapReports_eq, State.tell_told, List.append_assoc]
    cases (s.panels.get p).back.claim <;> rfl
  case notReady =>
    have hnext : nextFrame (s.panels.get p) s.clock = framed (s.panels.get p) s.clock := by
      rw [nextFrame, if_neg hnot]
    obtain ⟨hfront, hback, hrender, hstate, hlead, hfrom, hdue, hstay⟩ := framed_continued (s.panels.get p) s.clock
    rw [hnext]
    refine ⟨hfront, hback, hrender, hstate, hlead, hfrom, hdue, hstay, ?_⟩
    rw [startFrame_eq, State.take_panels, if_neg hnot, State.tell_told, List.append_nil]
    rfl
  have hswap : FrameKeeps (s.panels.get p)
      (if (s.panels.get p).render = .ready then (s.panels.get p).swap s.clock else s.panels.get p) := by
    split
    · exact swap_keeps _ _
    · exact ⟨rfl, rfl, rfl, rfl, rfl⟩
  obtain ⟨hstep, hmisses, hpending, hcause, hrow⟩ := framed_keeps s.clock hswap
  have hslot : (nextFrame (s.panels.get p) s.clock).slotStep = (s.panels.get p).step := by
    obtain ⟨hstep, -⟩ := hswap
    rw [nextFrame, framed_eq]
    exact hstep
  refine ⟨rfl, hslot, rfl, hstep, hmisses, hpending, hcause, hrow, fun q hq => ?_, ?_⟩
  · rw [startFrame_eq]
    exact PerPanel.get_set_other _ _ _ _ hq
  · rw [startFrame_eq]
    rfl

end Sys2Proof.Display

/-! Chapter 6: scans, slide pulses and the hourly record (R114 to R125, with R94, R106, R131 and R135). -/
namespace Sys2Proof.Display

open Machine Safety Orders

/-! ## What one item of a list decides -/

section
variable {σ α β : Type} {f : σ → α → σ} {v : σ → β}

/-- What no item of a list changes stays. -/
theorem foldl_view {xs : List α} (h : ∀ b ∈ xs, ∀ z, v (f z b) = v z) (z : σ) : v (xs.foldl f z) = v z := by
  induction xs generalizing z with
  | nil => rfl
  | cons b xs ih =>
    rw [List.foldl_cons, ih fun c hc => h c (List.mem_cons_of_mem b hc)]
    exact h b List.mem_cons_self z

/-- What only the item of one place changes is as that item leaves it. -/
theorem foldl_view_at {xs : List α} {i : Nat} {a : α} (hi : xs[i]? = some a)
    (h : ∀ j b, xs[j]? = some b → j ≠ i → ∀ z, v (f z b) = v z) (z : σ) :
    ∃ y, v y = v z ∧ v (xs.foldl f z) = v (f y a) := by
  induction xs generalizing i z with
  | nil => cases hi
  | cons b xs ih =>
    cases i with
    | zero =>
      cases hi
      refine ⟨z, rfl, ?_⟩
      rw [List.foldl_cons]
      refine foldl_view (fun c hc z => ?_) _
      obtain ⟨j, hj⟩ := List.mem_iff_getElem?.mp hc
      exact h (j + 1) c hj (Nat.succ_ne_zero j) z
    | succ i =>
      obtain ⟨y, hy, hfold⟩ := ih hi (fun j c hj hne => h (j + 1) c hj fun he => hne (Nat.succ.inj he)) (f z b)
      exact ⟨y, hy.trans (h 0 b rfl (Nat.succ_ne_zero i).symm z), hfold⟩

end

/-! ## The results of a scan (R116, R122) -/

section
variable {es : List ScanEntry} {raws : List Raw} {now i : Nat} {a : Acquisition} {e : ScanEntry} {r : Role}

theorem scanResults_getElem? (i : Nat) :
    (scanResults es raws)[i]? = es[i]?.map fun e => (e, (raws.getD i 0#12).toNat, i) := by
  simp [scanResults, List.getElem?_zipIdx, Function.comp_def]

/-- The result at a place is the entry's there, with its raw value. -/
theorem scanResults_eq_some {x : ScanEntry × Nat × Nat} (h : (scanResults es raws)[i]? = some x) :
    es[i]? = some x.1 ∧ x.2.2 = i := by
  rw [scanResults_getElem?] at h
  obtain ⟨e, he, rfl⟩ := Option.map_eq_some_iff.mp h
  exact ⟨he, rfl⟩

/-- The result of an entry for another role, or for none, leaves a role's record. -/
theorem takeEntry_roles_other {x : ScanEntry × Nat × Nat} (h : x.1.role ≠ some r) (a : Acquisition) :
    (takeEntry now a x).roles.get r = a.roles.get r := by
  unfold takeEntry
  split
  next r' hr' => exact PerRole.get_set_other _ _ _ _ fun he => h (by rw [hr', he])
  next => rfl

/-- The result of an entry leaves the raw value kept for another place. -/
theorem takeEntry_spare_other {x : ScanEntry × Nat × Nat} (h : x.2.2 ≠ i) (a : Acquisition) :
    (takeEntry now a x).spare[i]? = a.spare[i]? := by
  unfold takeEntry
  split
  · rfl
  · exact List.getElem?_set_ne h

/-- The results of a scan touch the role records and the raw values kept only. -/
theorem scan_frame (es : List ScanEntry) (raws : List Raw) (now : Nat) (a : Acquisition) :
    (scanResults es raws).foldl (takeEntry now) a = { a with
      roles := ((scanResults es raws).foldl (takeEntry now) a).roles
      spare := ((scanResults es raws).foldl (takeEntry now) a).spare } := by
  have h := foldl_view (v := fun z : Acquisition => (z.running, z.ring, z.scan, z.nextScan)) (f := takeEntry now)
    (xs := scanResults es raws) (fun x _ z => by unfold takeEntry; split <;> rfl) a
  obtain ⟨hrunning, hrest⟩ := Prod.mk.inj h
  obtain ⟨hring, hrest⟩ := Prod.mk.inj hrest
  obtain ⟨hscan, hnext⟩ := Prod.mk.inj hrest
  rw [← hrunning, ← hring, ← hscan, ← hnext]

/-- A role without an entry keeps its record. -/
theorem scan_role_none (h : ∀ e ∈ es, e.role ≠ some r) :
    ((scanResults es raws).foldl (takeEntry now) a).roles.get r = a.roles.get r := by
  refine foldl_view (v := fun z : Acquisition => z.roles.get r) (fun x hx z => takeEntry_roles_other ?_ z) a
  obtain ⟨j, hj⟩ := List.mem_iff_getElem?.mp hx
  exact h _ (List.mem_of_getElem? (scanResults_eq_some hj).1)

/-- A role with one entry has the sample of that entry (R116). -/
theorem scan_role_one (he : es[i]? = some e) (hr : e.role = some r)
    (hone : ∀ j e', es[j]? = some e' → e'.role = some r → j = i) :
    ((scanResults es raws).foldl (takeEntry now) a).roles.get r =
      sampleRole (a.roles.get r) r e (raws.getD i 0#12).toNat now := by
  have hat : (scanResults es raws)[i]? = some (e, (raws.getD i 0#12).toNat, i) := by
    rw [scanResults_getElem?, he]
    rfl
  obtain ⟨y, hy, hfold⟩ := foldl_view_at (v := fun z : Acquisition => z.roles.get r) (f := takeEntry now) hat
    (fun j x hj hne z => takeEntry_roles_other (fun hrole => hne (hone j _ (scanResults_eq_some hj).1 hrole)) z) a
  rw [hfold, ← hy]
  simp [takeEntry, hr]

/-- The raw value of an entry for no role is kept at its place (R122). -/
theorem scan_spare (he : es[i]? = some e) (hr : e.role = none) (hi : i < a.spare.length) :
    ((scanResults es raws).foldl (takeEntry now) a).spare[i]? = some (some (raws.getD i 0#12).toNat) := by
  have hat : (scanResults es raws)[i]? = some (e, (raws.getD i 0#12).toNat, i) := by
    rw [scanResults_getElem?, he]
    rfl
  obtain ⟨y, hy, hfold⟩ := foldl_view_at (v := fun z : Acquisition => z.spare[i]?) (f := takeEntry now) hat
    (fun j x hj hne z => takeEntry_spare_other (fun hplace => hne ((scanResults_eq_some hj).2.symm.trans hplace)) z) a
  have hlen : i < y.spare.length := by
    rw [List.getElem?_eq_getElem hi] at hy
    exact (List.getElem?_eq_some_iff.mp hy).1
  rw [hfold]
  simp [takeEntry, hr, hlen]

end

/-! ## A sample (R117 to R120) -/

section
variable {x : RoleRec} {r : Role} {e : ScanEntry} {raw now : Nat}

theorem sampleRole_faulted (h : raw ≤ 8 ∨ 4087 ≤ raw) : sampleRole x r e raw now = faultedSample x raw now :=
  if_pos (by simpa [sampleFaulted] using h)

theorem sampleRole_good (hlow : 8 < raw) (hhigh : raw < 4087) : sampleRole x r e raw now = goodSample x r e raw :=
  if_neg (by simp [sampleFaulted]; omega)

theorem faultedSample_of_few (h : x.faults < 59) :
    faultedSample x raw now = { x with raw := some raw, faults := x.faults + 1 } := by
  have hmin : min 60 (x.faults + 1) = x.faults + 1 := by omega
  have hne : x.faults + 1 ≠ 60 := by omega
  simp only [faultedSample, hmin, if_neg hne]

/-- At the 60th fault in a row a VALID role becomes FAILED, and invalid from then on. -/
theorem faultedSample_of_valid (h : 59 ≤ x.faults) (hv : x.validity = .valid) : faultedSample x raw now =
    { x with raw := some raw, faults := 60, validity := .failed, invalidSince := some now } := by
  have hmin : min 60 (x.faults + 1) = 60 := by omega
  simp only [faultedSample, hmin, if_true, hv]

/-- At the 60th fault in a row an UNMEASURED role becomes FAILED. -/
theorem faultedSample_of_unmeasured (h : 59 ≤ x.faults) (hv : x.validity = .unmeasured) : faultedSample x raw now =
    { x with raw := some raw, faults := 60, validity := .failed } := by
  have hmin : min 60 (x.faults + 1) = 60 := by omega
  simp only [faultedSample, hmin, if_true, hv]

/-- A FAILED role stays so at a further fault. -/
theorem faultedSample_of_failed (h : 59 ≤ x.faults) (hv : x.validity = .failed) : faultedSample x raw now =
    { x with raw := some raw, faults := 60 } := by
  have hmin : min 60 (x.faults + 1) = 60 := by omega
  simp only [faultedSample, hmin, if_true, hv]

/-- A good sample is calibrated, clamped to the range of its role and filtered (R118, R119). -/
theorem goodSample_eq {v : Int} (hv : v = max (roleRange r).1
      (min (roleRange r).2 ((((raw : Int) - (e.offset : Int)) * e.gain).fdiv 1024 + e.base))) :
    goodSample x r e raw = ⟨.valid, some (match x.validity, x.filtered with
      | .valid, some a => a + (v - a).fdiv (2 ^ e.shift)
      | _, _ => v), some raw, 0, none⟩ := by
  have hcalibrate : calibrate r e raw = v := by
    rw [hv, calibrate, clampTo, Int.fdiv_eq_ediv_of_nonneg _ (by decide)]
  have hfloor (z : Int) : z.fdiv (2 ^ e.shift) = z / 2 ^ e.shift := Int.fdiv_eq_ediv_of_nonneg z (by positivity)
  rw [goodSample, hcalibrate]
  simp only [hfloor]
  rfl

end

/-! ## What a scan tells (R94, R106, R120, R121) -/

section
variable {s t : State} {cmd : Instr} {raws : List Raw}

/-- The latches asked for, the leads formatted afresh and the panels told of LIGHT, between two states with the same leads. -/
theorem scanTells_eq (hdisplays : t.displays = s.displays) (hstore : t.store = s.store) (hcfg : t.cfg = s.cfg) :
    failedRoles s.acq.roles t.acq.roles ++ t.fieldsToReformat s ++ t.lightReports = scanTells s t := by
  have hdescriptor (d : Nat) : t.descriptor d = s.descriptor d := by rw [State.descriptor, hstore, State.descriptor]
  unfold scanTells
  congr 1
  · congr 1
    · refine congrArg _ (List.filter_congr fun r _ => ?_)
      rw [Bool.eq_iff_iff]
      simp
    · refine congrArg _ (List.filter_congr fun p _ => ?_)
      rw [hdisplays]
      cases (s.displays.get p).claims with
      | nil => rfl
      | cons c rest =>
        simp only [List.head?_cons, Option.bind_some, hdescriptor]
        cases (s.descriptor c.descriptor).cfg.field with
        | none => rfl
        | some f =>
          rw [Bool.eq_iff_iff]
          simp
  · simp only [State.lightReports, State.validValue, hcfg]
    show (match if t.acq.roles.light.validity = .valid then t.acq.roles.light.filtered else none with
      | some v => _
      | none => _) = _
    cases t.acq.roles.light.validity <;> cases t.acq.roles.light.filtered <;> rfl

/-- The state that a completed scan leaves, before it tells of it. -/
def scanned (s : State) (raws : List Raw) : State := { s with
  acq := (scanResults s.cfg.scanList raws).foldl (takeEntry s.clock) { s.acq with scan := none } }

theorem completeScan_eq : s.completeScan raws = (scanned s raws).tell (scanTells s (scanned s raws)) := by
  rw [← scanTells_eq (s := s) (t := scanned s raws) rfl rfl rfl]
  rfl

theorem exec_scanComplete {u : Nat} (hs : s.startUp = .running) (hscan : s.acq.scan = some u)
    (hrun : u + (s.cfg.scanList.map fun e => (e.sampling + 1) * 2 + 8).sum ≤ s.clock) :
    exec (.scanComplete raws) s = .next ((s.take (.scanComplete raws)).completeScan raws) := by
  have hdone : hasRun s.clock u (scanUs s.cfg.scanList) = true := (hasRun_iff ..).mpr hrun
  show execScanComplete raws s = _
  rw [execScanComplete, Gates.event_of_startUp hs]
  simp only [State.take_acq, hscan, State.take_clock, State.take_cfg, hdone, if_true]

/-- A role that has become FAILED has its latch asked for (R120). -/
theorem failed_told {r : Role} (hnew : (t.acq.roles.get r).validity = .failed)
    (hold : (s.acq.roles.get r).validity ≠ .failed) : .latchSetRequest (.sensorInvalid r) ∈ scanTells s t := by
  have hr : r ∈ [Role.roadTemp, .airTemp, .wind, .snowDepth, .light] := by cases r <;> simp
  refine List.mem_append_left _ (List.mem_append_left _ (List.mem_map.mpr ⟨r, ?_, rfl⟩))
  exact List.mem_filter.mpr ⟨hr, decide_eq_true ⟨hnew, hold⟩⟩

/-! ## Scan starts, pulses and the hour (R115, R123 to R125, R131) -/

theorem exec_scanStart {u : Nat} (hs : s.startUp = .running) (hlist : s.cfg.scanList ≠ [])
    (hnext : s.acq.nextScan = some u) (hdue : u ≤ s.clock) : exec .scanStart s = .next { s.take .scanStart with
      acq := { s.acq with scan := some s.clock, nextScan := some (u + s.cfg.scanPeriod * 1000000) } } := by
  have hcond : (decide (u ≤ s.clock) && !s.cfg.scanList.isEmpty) = true := by simp [hdue, hlist]
  show execScanStart s = _
  rw [execScanStart, Gates.event_of_startUp hs]
  simp only [State.take_acq, hnext]
  exact congrArg _ (if_pos hcond)

theorem exec_slidePulse {x : Input} (hs : s.startUp = .running) (hx : s.inputOf .slidePulse = some x)
    (hedges : x.cfg.edges ≠ .none) : exec .slidePulse s = .next { s.take .slidePulse with
      acq := { s.acq with running := min 255 (s.acq.running + 1) } } := by
  have hcounts : (s.take .slidePulse).countsPulses = true := by
    have hx' : (s.take .slidePulse).inputOf .slidePulse = some x := hx
    simp [State.countsPulses, hx', hedges]
  exact (Gates.event_of_startUp hs).trans (congrArg _ (if_pos hcounts))

theorem exec_hourlyAppend (hs : s.startUp = .running) (hhour : s.atHour = true)
    (hnew : ∀ x ∈ s.acq.ring, x.hour < s.hour) :
    exec .hourlyAppend s = .next (s.take .hourlyAppend).closeHour.hearAndCompute := by
  have hdue : (s.take .hourlyAppend).appendDue = true := by
    show (s.atHour && s.acq.ring.all fun x => decide (x.hour < s.hour)) = true
    simpa [hhour] using hnew
  exact (Gates.event_of_startUp hs).trans (congrArg _ (if_pos hdue))

/-- An hour boundary is a minute boundary. -/
theorem atMinute_of_atHour (h : s.atHour = true) : s.atMinute = true := by
  simp only [State.atHour, State.atMinute, hourUs, minuteUs, Bool.and_eq_true, bne_iff_ne, beq_iff_eq] at h ⊢
  omega

/-- A computation that waits as the oldest message is made in the state without it. -/
theorem exec_hazardComputation_told (hs : s.startUp = .running) (hminute : s.atMinute = true) :
    exec .hazardComputation { s with told := .hazardComputation :: s.told } = .next s.hearAndCompute := by
  have htake : ({ s with told := .hazardComputation :: s.told } : State).take .hazardComputation = s := by
    simp [State.take]
  have hexec := Gates.event_of_startUp (s := { s with told := .hazardComputation :: s.told }) (cmd := .hazardComputation)
    (f := fun s => if s.atMinute then s.hearAndCompute else s) hs
  rw [htake, if_pos hminute] at hexec
  exact hexec

end

/-- Settles O43: each entry's own result decides its role and its raw value, and the append's computation is the one of the
state after it. -/
theorem sensorEvents : Obligations.SensorEvents := by
  refine ⟨⟨rfl, rfl, rfl, rfl, rfl⟩, fun s hs => ⟨fun u hlist hnext hdue => exec_scanStart hs hlist hnext hdue,
    fun raws u hscan hrun => ?scan, fun x hx hedges => exec_slidePulse hs hx hedges, fun hhour hnew => ?hour⟩⟩
  case scan =>
    obtain ⟨t, ht⟩ : ∃ t, t = scanned (s.take (.scanComplete raws)) raws := ⟨_, rfl⟩
    have hexec := exec_scanComplete (raws := raws) hs hscan hrun
    rw [completeScan_eq, ← ht] at hexec
    refine ⟨_, hexec, fun i e r raw x he hr hone hraw hx => ?role, fun i e he hr hi => ?spare, fun r hnone => ?other,
      ?acq, ?told, ?frame⟩
    case role =>
      have hrole : t.acq.roles.get r = sampleRole x r e raw s.clock := by
        rw [ht, hraw, ← hx]
        exact scan_role_one he hr hone
      have hlatch (hnew : (t.acq.roles.get r).validity = .failed) (hold : x.validity ≠ .failed) :
          .latchSetRequest (.sensorInvalid r) ∈ (t.tell (scanTells (s.take (.scanComplete raws)) t)).told := by
        rw [← hx] at hold
        exact List.mem_append_right _ (failed_told hnew hold)
      simp only [State.tell_acq]
      refine ⟨fun hbad hfew => ?_, fun hbad hmany hv => ?_, fun hbad hmany hv => ?_, fun hbad hmany hv => ?_,
        fun hlow hhigh => ?_⟩
      · rw [hrole, sampleRole_faulted hbad, faultedSample_of_few hfew]
      · rw [sampleRole_faulted hbad, faultedSample_of_valid hmany hv] at hrole
        exact ⟨hrole, hlatch (by rw [hrole]) (by rw [hv]; nofun)⟩
      · rw [sampleRole_faulted hbad, faultedSample_of_unmeasured hmany hv] at hrole
        exact ⟨hrole, hlatch (by rw [hrole]) (by rw [hv]; nofun)⟩
      · rw [hrole, sampleRole_faulted hbad, faultedSample_of_failed hmany hv]
      · refine ⟨_, rfl, ?_⟩
        rw [hrole, sampleRole_good hlow hhigh]
        exact goodSample_eq rfl
    case spare =>
      rw [ht]
      exact scan_spare he hr hi
    case other =>
      rw [ht]
      exact scan_role_none hnone
    case acq =>
      rw [ht]
      exact scan_frame ..
    case told => rw [ht]; rfl
    case frame => rw [ht]; rfl
  case hour =>
    obtain ⟨u, hu⟩ : ∃ u, u = (s.take .hourlyAppend).closeHour := ⟨_, rfl⟩
    have hexec := exec_hourlyAppend hs hhour hnew
    have hminute : u.atMinute = true := by
      rw [hu]
      exact atMinute_of_atHour (s := s) hhour
    rw [← hu] at hexec
    refine ⟨_, u, hexec, hu, ?_, exec_hazardComputation_told (by rw [hu]; exact hs) hminute⟩
    have hhazard : u.hazard = s.hazard := by rw [hu]; rfl
    rw [u.hearAndCompute_frame, ← hhazard]

end Sys2Proof.Display

/-! Chapter 8: the bulletin time, and the ageing of peer entries with what goes with a stale one (R151 to R153, R157, R159). -/
namespace Sys2Proof.Display

open Machine Safety Orders

/-! ## A bulletin joins the queue (R153, R167, R169) -/

section
variable {l : Line} {f : Frame} {again : Bool}

/-- The transmitter follows the unstarted frames as R169 gives. -/
theorem requeue_txFollows (l : Line) (w : List Frame) (again : Bool) : TxFollows [] again l (l.requeue w again) := by
  unfold Line.requeue
  refine ⟨fun x hx => ?_, fun hidle _ => ?_, fun q hq _ => ?_⟩
  · simp [hx]
  · simp [hidle]
  · simp [hq]

theorem requeue_frame (l : Line) (w : List Frame) (again : Bool) :
    { l.requeue w again with waiting := l.waiting, tx := l.tx } = l := by
  unfold Line.requeue
  split <;> rfl

/-- A line with a bulletin on the way, or with no room, that stays as it is. -/
theorem txFollows_refl (hbusy : l.waiting = [] → l.tx ≠ .idle) : TxFollows [] false l l :=
  ⟨fun x hx => by simpa using hx, fun hidle hnone => absurd hidle (hbusy hnone), fun q hq hne => by simp [hq, hne]⟩

/-- A waiting bulletin gives its place to the new one (R167). -/
theorem joinBulletin_of_waiting (h : l.waiting.any Frame.isBulletin = true) : l.joinBulletin f =
    l.requeue (l.waiting.map fun g => if g.isBulletin then f else g) (l.waiting.head?.any Frame.isBulletin) := if_pos h

/-- A bulletin joins at the end of a queue that has room and no other (R167). -/
theorem joinBulletin_of_room (h : l.waiting.any Frame.isBulletin = false)
    (hstarted : l.started.any Frame.isBulletin = false) (hroom : l.size < 12) :
    l.joinBulletin f = l.requeue (l.waiting ++ [f]) false := by
  simp [Line.joinBulletin, h, hstarted, hroom]

/-- A bulletin is discarded while one is being sent, or with 12 frames held (R167). -/
theorem joinBulletin_of_full (h : l.waiting.any Frame.isBulletin = false)
    (hfull : l.started.any Frame.isBulletin = true ∨ 12 ≤ l.size) : l.joinBulletin f = l := by
  unfold Line.joinBulletin
  rw [h]
  rcases hfull with hstarted | hsize
  · simp [hstarted]
  · simp [show ¬l.size < 12 by omega]

/-- With no bulletin waiting, none is at the head. -/
theorem head_not_bulletin (h : l.waiting.any Frame.isBulletin = false) : l.waiting.head?.any Frame.isBulletin = false := by
  cases hw : l.waiting with
  | nil => rfl
  | cons g rest =>
    rw [hw, List.any_cons, Bool.or_eq_false_iff] at h
    exact h.1

/-- A line that discards a bulletin is not idle with an empty queue. -/
theorem tx_busy_of_full (hfull : l.started.any Frame.isBulletin = true ∨ 12 ≤ l.size) (hnone : l.waiting = []) :
    l.tx ≠ .idle := by
  intro hidle
  simp [Line.size, Line.started, hidle, hnone] at hfull

/-- What becomes of the transmitter when a bulletin is handed over, and what else stays. -/
theorem joinBulletin_follows (l : Line) (f : Frame) :
    TxFollows [] (l.waiting.head?.any Frame.isBulletin) l (l.joinBulletin f) ∧
      { l.joinBulletin f with waiting := l.waiting, tx := l.tx } = l := by
  cases h : l.waiting.any Frame.isBulletin
  · rw [head_not_bulletin h]
    by_cases hfull : l.started.any Frame.isBulletin = true ∨ 12 ≤ l.size
    · rw [joinBulletin_of_full h hfull]
      exact ⟨txFollows_refl (tx_busy_of_full hfull), rfl⟩
    · rw [not_or, Bool.not_eq_true, not_le] at hfull
      rw [joinBulletin_of_room h hfull.1 hfull.2]
      exact ⟨requeue_txFollows .., requeue_frame ..⟩
  · rw [joinBulletin_of_waiting h]
    exact ⟨requeue_txFollows .., requeue_frame ..⟩

end

/-! ## What a bulletin says (R152) -/

section
variable {s : State}

theorem role_mem_all (r : Role) : r ∈ Role.all := by cases r <;> simp [Role.all]

theorem panel_mem_all (p : Panel) : p ∈ Panel.all := by cases p <;> simp [Panel.all]

theorem gate_mem_all (g : GateId) : g ∈ GateId.all := by cases g <;> simp [GateId.all]

theorem sensorDegraded_iff : s.sensorDegraded = true ↔
    (∃ r, (s.acq.roles.get r).validity = .unmeasured ∨ (s.acq.roles.get r).validity = .failed) ∨
      ∃ (i : Nat) (x : PathRec), i < s.cfg.paths.length ∧ s.hazard.paths[i]? = some x ∧ x.degraded = true := by
  unfold State.sensorDegraded
  rw [Bool.or_eq_true]
  refine or_congr ?_ ?_
  · have hinvalid (v : Validity) : (v != .valid && v != .notConfigured) = true ↔ v = .unmeasured ∨ v = .failed := by
      cases v <;> simp
    simp only [List.any_eq_true, role_mem_all, true_and, hinvalid]
  · simp only [List.any_eq_true, List.mem_take_iff_getElem]
    constructor
    · rintro ⟨x, ⟨i, hi, rfl⟩, hx⟩
      exact ⟨i, _, by omega, List.getElem?_eq_getElem _, hx⟩
    · rintro ⟨i, x, hi, hat, hx⟩
      obtain ⟨hi', rfl⟩ := List.getElem?_eq_some_iff.mp hat
      exact ⟨_, ⟨i, by omega, rfl⟩, hx⟩

theorem panelFault_iff : s.buildBulletin.panelFault = true ↔
    ∃ p c, s.cfg.panels.get p = some c ∧ (s.panels.get p).state = .fault := by
  simp [State.buildBulletin, panel_mem_all, Option.isSome_iff_exists]

theorem gateFault_iff : s.buildBulletin.gateFault = true ↔
    ∃ g c, s.cfg.gates.get g = some c ∧ (s.gates.get g).state = .fault := by
  simp [State.buildBulletin, gate_mem_all, Option.isSome_iff_exists]

/-- Each fitted gate has its report (R74, R152). -/
theorem gateReports_mem {g : GateId} {c : GateCfg} (hc : s.cfg.gates.get g = some c) :
    ⟨g, c.guarded, c.entry, (s.gates.get g).state⟩ ∈ s.buildBulletin.gates :=
  List.mem_filterMap.mpr ⟨g, gate_mem_all g, by rw [hc]; rfl⟩

theorem exec_bulletinTime {u : Nat} (hs : s.startUp = .running) (hnext : s.bulletin.nextAt = some u) (hdue : u ≤ s.clock) :
    exec .bulletinTime s = .next { s.take .bulletinTime with
      bulletin := { s.bulletin with nextAt := some (u + s.cfg.bulletinPeriod * 1000000) }
      line := s.line.joinBulletin s.bulletinFrame } := by
  show execBulletinTime s = _
  rw [execBulletinTime, Gates.event_of_startUp hs]
  simp only [State.take_bulletin, hnext]
  exact congrArg _ (if_pos hdue)

/-! ## An entry ages (R157) -/

variable {i : Nat} {x : Peer}

theorem aged_eq (x : Peer) : x.aged =
    if 9 ≤ x.missed then none
    else some { x with missed := x.missed + 1, present := x.present && decide (x.missed < 2) } := by
  have hfree : 10 ≤ x.missed + 1 ↔ 9 ≤ x.missed := by omega
  have hstale : x.missed + 1 < 3 ↔ x.missed < 2 := by omega
  simp only [Peer.aged, hfree, hstale]

/-- An entry that goes stale or is freed is not present any more. -/
theorem aged_present (h : x.missed = 2 ∨ 9 ≤ x.missed) {y : Peer} (hy : x.aged = some y) : y.present = false := by
  rw [aged_eq] at hy
  split at hy
  · cases hy
  · cases hy
    have hlate : ¬x.missed < 2 := by omega
    simp [hlate]

/-- No two entries of a sound peer table have one sender (R155). -/
theorem peers_unique {j : Nat} {y : Peer} (hsound : PeersSound s) (hi : s.bulletin.peers[i]? = some (some x))
    (hj : s.bulletin.peers[j]? = some (some y)) (hsender : x.sender = y.sender) : i = j := by
  obtain ⟨-, hnodup, -⟩ := hsound
  rw [List.Nodup, List.pairwise_map, List.pairwise_filterMap, List.pairwise_iff_getElem] at hnodup
  obtain ⟨hi', hx⟩ := List.getElem?_eq_some_iff.mp hi
  obtain ⟨hj', hy⟩ := List.getElem?_eq_some_iff.mp hj
  rcases lt_trichotomy i j with hlt | heq | hlt
  · exact absurd hsender (hnodup i j hi' hj' hlt x hx y hy)
  · exact heq
  · exact absurd hsender.symm (hnodup j i hj' hi' hlt y hy x hx)

/-- Once an entry of a sound peer table has gone stale or been freed, no gate ahead of its sender warns (R93). -/
theorem gateAheadWarns_aged {a : GateAheadCfg} (hsound : PeersSound s) (hi : s.bulletin.peers[i]? = some (some x))
    (h : x.missed = 2 ∨ 9 ≤ x.missed) (ha : a.station = x.sender) :
    (s.setPeer i x.aged).gateAheadWarns a = false := by
  rw [← Bool.not_eq_true, gateAheadWarns_iff]
  rintro ⟨y, hpeer, hpresent, -⟩
  obtain ⟨j, hj, hsender, -⟩ := peerOf_eq_some_iff.mp hpeer
  have hj' : (s.bulletin.peers.set i x.aged)[j]? = some (some y) := hj
  by_cases hij : i = j
  · subst hij
    rw [List.getElem?_set_self (List.getElem?_eq_some_iff.mp hi).1] at hj'
    rw [aged_present h (Option.some.inj hj')] at hpresent
    cases hpresent
  · rw [List.getElem?_set_ne hij] at hj'
    exact hij (peers_unique hsound hi hj' (ha.symm.trans hsender.symm))

/-! ## The effective levels (R142, R143) -/

/-- The station with its effective levels worked out afresh. -/
def leveled (s : State) : State :=
  { s with hazard := { s.hazard with paths := s.effectivePaths, remotes := s.effectiveRemotes } }

/-- An effective level differs between two states. -/
def levelsDiffer (s t : State) : Bool := pathOrder.any fun r => t.effectiveOf r != s.effectiveOf r

theorem levelsDiffer_iff {s t : State} : levelsDiffer s t = true ↔ ∃ r ∈ pathOrder, t.effectiveOf r ≠ s.effectiveOf r := by
  simp [levelsDiffer]

/-- The station with its effective levels worked out afresh, and the Claim Unit told where one has changed (R143). -/
def leveledTold (s : State) : State := (leveled s).tell (if levelsDiffer s (leveled s) then [.hazardClaim] else [])

theorem recomputeEffective_eq : s.recomputeEffective = leveledTold s := by
  have hcases : s.recomputeEffective =
      if levelsDiffer s (leveled s) then (leveled s).tell [.hazardClaim] else leveled s := rfl
  rw [hcases, leveledTold]
  split
  · rfl
  · simp [State.tell]

/-- A configured local path has the higher of its own level and the highest reported for its number (R142). -/
theorem effectivePaths_at {j : Nat} {c : PathCfg} {y : PathRec} (hc : s.cfg.paths[j]? = some c)
    (hy : s.hazard.paths[j]? = some y) :
    s.effectivePaths[j]? = some { y with effective := Level.max y.level (s.reportedLevel c.number) } := by
  simp [State.effectivePaths, List.getElem?_zipIdx, hy, hc]

/-- A configured remote path has the highest level reported for its number (R143). -/
theorem effectiveRemotes_at {j : Nat} {c : RemoteCfg} {l : Level} (hc : s.cfg.remotes[j]? = some c)
    (hl : s.hazard.remotes[j]? = some l) : s.effectiveRemotes[j]? = some (s.reportedLevel c.number) := by
  simp [State.effectiveRemotes, List.getElem?_zipIdx, hl, hc]

/-! ## An entry out of play (log 36) -/

theorem outOfPlay_eq (s : State) (sender : Nat) : s.outOfPlay sender = (leveledTold s).gateAheadClaims sender := by
  rw [State.outOfPlay, recomputeEffective_eq]

theorem gateAheadClaims_frame (s : State) (sender : Nat) :
    { s.gateAheadClaims sender with displays := s.displays, told := s.told } = s := changeStacks_frame s _

/-- Taking a sender out of play writes the effective levels, the stacks and the messages only. -/
theorem outOfPlay_frame (s : State) (sender : Nat) :
    { s.outOfPlay sender with displays := s.displays, told := s.told } = leveled s := by
  rw [outOfPlay_eq]
  have h := congrArg (fun u : State => { u with told := s.told }) (gateAheadClaims_frame (leveledTold s) sender)
  exact h

/-- Taking a sender out of play tells of changed levels, and then of changed leads. -/
theorem outOfPlay_leadsTold (s : State) (sender : Nat) : LeadsTold s (s.outOfPlay sender)
    (s.told ++ if levelsDiffer s (leveled s) then [.hazardClaim] else []) := by
  rw [outOfPlay_eq]
  obtain ⟨htold, hhanded⟩ := changeStacks_leadsTold (leveledTold s) _
  exact ⟨htold, hhanded⟩

theorem exec_periodBoundary (hs : s.startUp = .running) (hx : s.bulletin.peers[i]? = some (some x))
    (hdue : x.received + (x.missed + 1) * (s.cfg.bulletinPeriod * 1000000) ≤ s.clock) :
    exec (.periodBoundary i) s = .next
      (if x.missed = 2 ∨ 9 ≤ x.missed then ((s.take (.periodBoundary i)).setPeer i x.aged).outOfPlay x.sender
      else (s.take (.periodBoundary i)).setPeer i x.aged) := by
  have hpeer : (s.take (.periodBoundary i)).peer i = some x := by
    show s.bulletin.peers[i]?.join = some x
    rw [hx]
    rfl
  have hboundary : x.boundaryDue (s.take (.periodBoundary i)).clock (s.take (.periodBoundary i)).periodUs = true :=
    (hasRun_iff ..).mpr hdue
  have hout : (x.missed + 1 = 3 ∨ 10 ≤ x.missed + 1) ↔ (x.missed = 2 ∨ 9 ≤ x.missed) := by omega
  show execPeriodBoundary i s = _
  rw [execPeriodBoundary, Gates.event_of_startUp hs]
  simp only [hpeer, hboundary, if_true, hout]

end

section
variable {s : State} {i : Nat} {x : Peer} {cmd : Instr} {p : Panel} {c : PanelCfg} {a : GateAheadCfg}

/-- The station with an entry aged and its sender out of play. -/
def agedOut (s : State) (cmd : Instr) (i : Nat) (x : Peer) : State :=
  ((s.take cmd).setPeer i x.aged).outOfPlay x.sender

theorem agedOut_frame : { agedOut s cmd i x with displays := s.displays, told := s.told } =
    { leveled (s.setPeer i x.aged) with told := s.told } :=
  congrArg (fun u : State => { u with told := s.told }) (outOfPlay_frame ((s.take cmd).setPeer i x.aged) x.sender)

theorem agedOut_bulletin : (agedOut s cmd i x).bulletin = (s.setPeer i x.aged).bulletin := by
  have h := congrArg State.bulletin (agedOut_frame (s := s) (cmd := cmd) (i := i) (x := x))
  exact h

theorem agedOut_hazard : (agedOut s cmd i x).hazard = (leveled (s.setPeer i x.aged)).hazard := by
  have h := congrArg State.hazard (agedOut_frame (s := s) (cmd := cmd) (i := i) (x := x))
  exact h

theorem agedOut_reportedLevel (number : Nat) :
    (agedOut s cmd i x).reportedLevel number = (s.setPeer i x.aged).reportedLevel number := by
  simp only [State.reportedLevel, agedOut_bulletin]

theorem agedOut_effectiveOf (r : PathRef) :
    (agedOut s cmd i x).effectiveOf r = (leveled (s.setPeer i x.aged)).effectiveOf r := by
  cases r <;> simp only [State.effectiveOf, State.path, agedOut_hazard]

/-- A panel that names the sender holds no claim of its gate any more, and its other claims (R93; log 36). -/
theorem agedOut_named (hx : s.bulletin.peers[i]? = some (some x)) (hout : x.missed = 2 ∨ 9 ≤ x.missed)
    (hc : s.cfg.panels.get p = some c) (ha : c.gateAhead = some a) (hsender : a.station = x.sender) :
    SameBut [.gateAhead] (s.displays.get p).claims ((agedOut s cmd i x).displays.get p).claims ∧
      (PeersSound s → Absent ((agedOut s cmd i x).displays.get p).claims .gateAhead) := by
  rw [agedOut, outOfPlay_eq]
  refine ⟨gateAheadClaims_sameBut (s := leveledTold ((s.take cmd).setPeer i x.aged)) hc ha hsender, fun hsound => ?_⟩
  refine gateAheadClaims_absent (s := leveledTold ((s.take cmd).setPeer i x.aged)) hc ha hsender ?_
  have hquiet : (leveledTold ((s.take cmd).setPeer i x.aged)).gateAheadWarns a = false :=
    gateAheadWarns_aged hsound hx hout hsender
  rw [hquiet]
  simp

/-- A panel that does not name the sender keeps its stack. -/
theorem agedOut_other
    (hother : ∀ c a, s.cfg.panels.get p = some c → c.gateAhead = some a → a.station ≠ x.sender) :
    (agedOut s cmd i x).displays.get p = s.displays.get p := by
  rw [agedOut, outOfPlay_eq]
  exact gateAheadClaims_other (s := leveledTold ((s.take cmd).setPeer i x.aged)) hother

end

/-- Settles O47: the bulletin by what `joinBulletin` does with it, and an entry by its aging, out of play at 3 and at 10
missed periods. -/
theorem bulletinTimes : Obligations.BulletinTimes := by
  refine fun s hs => ⟨fun u hnext hdue => ?bulletin, fun i x hx hdue => ?boundary⟩
  case bulletin =>
    obtain ⟨hfollows, hframe⟩ := joinBulletin_follows s.line s.bulletinFrame
    exact ⟨_, s.bulletinFrame, exec_bulletinTime hs hnext hdue, rfl, rfl, rfl, rfl, rfl, sensorDegraded_iff, panelFault_iff,
      gateFault_iff, fun v => validValue_eq_some_iff, fun v => validValue_eq_some_iff, fun v => validValue_eq_some_iff,
      fun v => measure_newSnow_eq_some_iff, rfl, fun g c => gateReports_mem, rfl,
      fun hwaiting => by rw [joinBulletin_of_waiting hwaiting, Line.requeue_waiting],
      fun hnone hstarted hroom => by rw [joinBulletin_of_room hnone hstarted hroom, Line.requeue_waiting],
      fun hnone hfull => joinBulletin_of_full hnone hfull, hfollows, hframe, rfl⟩
  case boundary =>
    have hexec := exec_periodBoundary hs hx hdue
    have hpeers : (s.setPeer i x.aged).bulletin = { s.bulletin with
        peers := s.bulletin.peers.set i (if 9 ≤ x.missed then none
          else some { x with missed := x.missed + 1, present := x.present && decide (x.missed < 2) }) } := by
      rw [← aged_eq]
      rfl
    by_cases hout : x.missed = 2 ∨ 9 ≤ x.missed
    · rw [if_pos hout] at hexec
      refine ⟨agedOut s (.periodBoundary i) i x, hexec, agedOut_bulletin.trans hpeers, fun h => by omega, fun _ =>
        ⟨fun j c y hc hy => ?paths, fun j c l hc hl => ?remotes, ?asks,
          fun p c a hc ha hsender => agedOut_named hx hout hc ha hsender, fun p hother => agedOut_other hother, ?newSnow,
          ?frame⟩⟩
      case paths =>
        rw [agedOut_hazard, agedOut_reportedLevel]
        exact effectivePaths_at (s := s.setPeer i x.aged) hc hy
      case remotes =>
        rw [agedOut_hazard, agedOut_reportedLevel]
        exact effectiveRemotes_at (s := s.setPeer i x.aged) hc hl
      case asks =>
        obtain ⟨v, hv⟩ : ∃ v, v = (s.take (.periodBoundary i)).setPeer i x.aged := ⟨_, rfl⟩
        have hdiffer : levelsDiffer v (leveled v) = true ↔
            ∃ r ∈ pathOrder, (agedOut s (.periodBoundary i) i x).effectiveOf r ≠ s.effectiveOf r := by
          simp only [agedOut_effectiveOf]
          rw [levelsDiffer_iff, hv]
          rfl
        refine ⟨if levelsDiffer v (leveled v) then [.hazardClaim] else [], fun h => if_pos (hdiffer.mpr h),
          fun h => if_neg fun hd => ?_, ?_⟩
        · obtain ⟨r, hr, hne⟩ := hdiffer.mp hd
          exact hne (h r hr)
        · obtain ⟨htold, hhanded⟩ := outOfPlay_leadsTold v x.sender
          rw [hv] at htold hhanded ⊢
          exact ⟨htold, hhanded⟩
      case newSnow => rw [agedOut_hazard]; rfl
      case frame =>
        have h := congrArg (fun u : State => { u with bulletin := s.bulletin, hazard := s.hazard })
          (agedOut_frame (s := s) (cmd := .periodBoundary i) (i := i) (x := x))
        exact h
    · rw [if_neg hout] at hexec
      exact ⟨_, hexec, hpeers, fun _ => rfl, fun h => absurd h hout⟩

end Sys2Proof.Display

/-! Chapter 5: every operation of a Panel Driver keeps its panel's state, images, times, miss counts and fault in agreement
(R99 to R111). -/
namespace Sys2Proof.Panels

open Machine Safety Display

/-! ## One panel record -/

section
variable {x : PanelRec} {now : Nat}

theorem reset_sound : PanelSound PanelRec.reset := by simp [PanelSound, PanelRec.reset]

/-- A panel without a fault may have a render begun, completed or ended. -/
theorem render_sound (hx : PanelSound x) (hstate : x.state ≠ .fault) (render : Render) (back : PanelImage) :
    PanelSound { x with render := render, back := back } := by
  obtain ⟨hfront, hlead, -, hcause, hrow, hmisses⟩ := hx
  exact ⟨hfront, hlead, fun hfault => absurd hfault hstate, hcause, hrow, hmisses⟩

/-- A swap of a panel without a fault (R103, R104). -/
theorem swap_sound (hx : PanelSound x) (hstate : x.state ≠ .fault) : PanelSound (x.swap now) := by
  obtain ⟨hfront, hlead, -, hcause, hrow, hmisses⟩ := hx
  have hnocause : ¬x.cause.isSome = true := mt hcause.mp hstate
  have hnorow : ¬x.faultRow.isSome = true := mt hrow.mp hstate
  have hlow : ∀ n ∈ x.misses, n ≤ 3 ∧ n ≤ 2 := fun n hn => (hmisses n hn).imp_right fun hlow => hlow hstate
  by_cases hblank : x.back.claim = none
  · rw [swap_of_blank hblank]
    simpa [PanelSound, hblank, hnocause, hnorow] using hlow
  · have hshown : x.back.claim.isSome = true := Option.isSome_iff_ne_none.mpr hblank
    by_cases hsame : x.back.claim = x.front.claim
    · have htime : x.leadShown.isSome = true := hlead.mpr (hfront.mp (hsame ▸ hshown))
      rw [swap_of_same hblank hsame]
      simpa [PanelSound, hshown, htime, hnocause, hnorow] using hlow
    · rw [swap_of_new hblank hsame]
      simpa [PanelSound, hshown, hnocause, hnorow] using hlow

/-- A frame start without a swap touches the phase, the driven image and the position of the scan only. -/
theorem framed_sound (hx : PanelSound x) : PanelSound (framed x now) := by
  rw [framed_eq]
  exact hx

theorem nextFrame_sound (hx : PanelSound x) : PanelSound (nextFrame x now) := by
  unfold nextFrame
  refine framed_sound ?_
  split
  next hready =>
    have ⟨_, _, hidle, _⟩ := hx
    exact swap_sound hx fun hfault => by simp [hidle hfault] at hready
  next => exact hx

/-- A new row slot touches the position of the scan only. -/
theorem newSlot_sound (hx : PanelSound x) : PanelSound (x.newSlot now) := by
  unfold PanelRec.newSlot
  repeat' split
  all_goals exact hx

/-- A miss count may become any number short of a third miss. -/
theorem setMiss_sound (hx : PanelSound x) (row : Nat) {n : Nat} (hn : n ≤ 2) (sampled : Bool) :
    PanelSound { x with sampled := sampled, misses := x.misses.set row n } := by
  obtain ⟨hfront, hlead, hidle, hcause, hrow, hmisses⟩ := hx
  refine ⟨hfront, hlead, hidle, hcause, hrow, fun m hm => ?_⟩
  rcases List.mem_or_eq_of_mem_set hm with hm | rfl
  · exact hmisses m hm
  · exact ⟨by omega, fun _ => hn⟩

/-- A panel whose miss counts do not pass 3 may enter FAULT (R109). -/
theorem enterFault_sound (hmisses : ∀ n ∈ x.misses, n ≤ 3) (row : Nat) : PanelSound (x.enterFault row) := by
  simpa [PanelSound, PanelRec.enterFault] using hmisses

theorem missesOf_le (hx : PanelSound x) (hstate : x.state ≠ .fault) (row : Nat) : x.missesOf row ≤ 2 := by
  obtain ⟨-, -, -, -, -, hmisses⟩ := hx
  by_cases hlt : row < x.misses.length
  · obtain ⟨-, hlow⟩ := hmisses _ (List.getElem_mem hlt)
    rw [PanelRec.missesOf, List.getD_eq_getElem _ _ hlt]
    exact hlow hstate
  · rw [PanelRec.missesOf, List.getD_eq_default _ _ (not_lt.mp hlt)]
    exact Nat.zero_le 2

/-- A panel in FAULT that recovers is DARK with no miss counted, and a render begins (R111). -/
theorem recovered_sound (hx : PanelSound x) (hstate : x.state = .fault) : PanelSound
    (PanelRec.beginRender
      { x with misses := List.replicate 16 0, cause := none, faultRow := none, state := .dark } now) := by
  obtain ⟨hfront, hlead, -, -, -, -⟩ := hx
  simpa [PanelSound, PanelRec.beginRender, hstate] using And.intro hfront hlead

end

/-! ## The records of the station -/

section
variable {s t : State} {p : Panel} {x : PanelRec}

theorem panelsSound_of_eq (hs : PanelsSound s) (h : t.panels = s.panels) : PanelsSound t := by
  intro p
  rw [h]
  exact hs p

theorem setPanel_sound (hs : PanelsSound s) (hx : PanelSound x) : PanelsSound (s.setPanel p x) := by
  intro q
  by_cases hq : q = p
  · subst hq
    simpa using hx
  · simpa [PerPanel.get_set_other _ _ _ _ hq] using hs q

theorem startFrame_sound (hs : PanelsSound s) : PanelsSound (s.startFrame p) := by
  rw [startFrame_eq]
  exact setPanel_sound hs (nextFrame_sound (hs p))

/-- A checked row of a SHOWING panel (R108, R109). -/
theorem checkRow_sound (hs : PanelsSound s) (hshowing : (s.panels.get p).state = .showing) (row : Nat) (current : Bool) :
    PanelsSound (s.checkRow p row current) := by
  have hstate : (s.panels.get p).state ≠ .fault := by simp [hshowing]
  unfold State.checkRow
  dsimp only
  split
  · exact setPanel_sound hs (setMiss_sound (hs p) row (Nat.zero_le 2) true)
  · split
    · refine setPanel_sound hs (enterFault_sound (fun n hn => ?_) row)
      obtain ⟨-, -, -, -, -, hmisses⟩ := hs p
      rcases List.mem_or_eq_of_mem_set hn with hn | rfl
      · exact (hmisses n hn).1
      · exact Nat.succ_le_succ (missesOf_le (hs p) hstate row)
    next hfew => exact setPanel_sound hs (setMiss_sound (hs p) row (by omega) true)

theorem recoverPanel_sound (hs : PanelsSound s) : PanelsSound (s.recoverPanel p) := by
  unfold State.recoverPanel
  dsimp only
  split
  next hfault => exact setPanel_sound hs (recovered_sound (hs p) hfault)
  next => exact hs

theorem runClock_sound (hs : PanelsSound s) : PanelsSound s.runClock := by
  unfold State.runClock
  split
  case h_4 =>
    intro p
    cases p
    · exact newSlot_sound (hs .a)
    · exact newSlot_sound (hs .b)
    · exact newSlot_sound (hs .c)
  all_goals exact hs

theorem doReset_sound (s : State) : PanelsSound s.doReset := fun p => by cases p <;> exact reset_sound

end
end Sys2Proof.Panels

/-! Chapters 1 to 11: what each block but the Panel Drivers leaves of the panel records. -/
namespace Sys2Proof.Panels

open Machine Safety
open Display (EngineWrites GateWrites)

/-! ## What the pass line and the port write (R164 to R170, R181, R182) -/

/-- Two states are the same but for the pass line, the port and the messages. -/
def LinkWrites (s t : State) : Prop := { t with line := s.line, port := s.port, told := s.told } = s

section
variable {t u : State} (s : State)

theorem LinkWrites.trans {s : State} (h : LinkWrites s t) (h' : LinkWrites t u) : LinkWrites s u := by
  have hu := congrArg (fun v : State => { v with line := s.line, port := s.port, told := s.told }) h'
  exact hu.trans h

theorem endGap_writes : LinkWrites s s.endGap := by
  unfold State.endGap
  split <;> rfl

theorem lineBusy_writes : LinkWrites s s.lineBusy := (endGap_writes s).trans rfl

theorem goodFrame_writes (kind : Byte) (f : RxFrame) : LinkWrites s (s.goodFrame kind f) := by
  unfold State.goodFrame
  dsimp only
  repeat' split
  all_goals rfl

theorem assemble_writes (c : Byte) (err : Bool) : LinkWrites s (s.assemble c err) := by
  unfold State.assemble
  split
  case h_4 => exact goodFrame_writes ..
  all_goals rfl

theorem startSending_writes (f : Frame) (rest : List Frame) : LinkWrites s (s.startSending f rest) := by
  have h : LinkWrites s s.abandonReceive := by
    unfold State.abandonReceive
    split <;> rfl
  exact h.trans rfl

theorem collide_writes (x : Sending) : LinkWrites s (s.collide x) := by
  unfold State.collide
  dsimp only
  repeat' split
  all_goals rfl

theorem sendOn_writes (x : Sending) : LinkWrites s (s.sendOn x) := by
  unfold State.sendOn
  split <;> rfl

theorem receive_writes (got : List Byte) (gap : Nat) (c : Byte) (bad : Bool) :
    LinkWrites s (s.receive got gap c bad) := by
  unfold State.receive State.gather
  repeat' split
  all_goals rfl

theorem answer_writes (data : Option (List Byte)) : LinkWrites s (s.answer data) := by
  cases data <;> rfl

theorem applySetting_writes : LinkWrites s s.applySetting := by
  unfold State.applySetting
  split <;> rfl

/-! ## What leaves the panel records -/

variable {s}

theorem panels_of_engine (h : EngineWrites s t) : t.panels = s.panels := by
  have hp := congrArg State.panels h
  exact hp

theorem panels_of_gates (h : GateWrites s t) : t.panels = s.panels := by
  have hp := congrArg State.panels h
  exact hp

theorem panels_of_link (h : LinkWrites s t) : t.panels = s.panels := by
  have hp := congrArg State.panels h
  exact hp

variable (s)

theorem changeStack_panels (p : Panel) (f : List Claim → List Claim) : (s.changeStack p f).panels = s.panels := by
  have h := congrArg State.panels (s.changeStack_frame p f)
  exact h

theorem changeStacks_panels (F : Panel → List Claim → List Claim) : (s.changeStacks F).panels = s.panels := by
  rw [Display.changeStacks_eq]

theorem gateClaims_panels (g : GateId) (ask : GateAsk) : (s.gateClaims g ask).panels = s.panels := by
  unfold State.gateClaims
  split
  · exact changeStacks_panels ..
  · rfl

theorem reformat_panels (p : Panel) : (s.reformat p).panels = s.panels := by
  unfold State.reformat
  repeat' split
  all_goals rfl

theorem hearReport_panels (r : ChangeReport) : (s.hearReport r).panels = s.panels := by rw [s.hearReport_frame]

theorem recomputeEffective_panels : s.recomputeEffective.panels = s.panels := by rw [s.recomputeEffective_frame]

theorem hearAndCompute_panels : s.hearAndCompute.panels = s.panels := by rw [s.hearAndCompute_frame]

theorem automaticIssue_panels (i : Nat) (c : PathCfg) (kind : NoticeKind) :
    (s.automaticIssue i c kind).panels = s.panels := by
  unfold State.automaticIssue
  split
  next hissued =>
    rw [State.setPath_panels, panels_of_engine (Display.commit_writes _),
      panels_of_engine (Display.issueNotice_writes hissued)]
  next => rfl

theorem goodBulletin_panels (sender : Nat) (b : Bulletin) : (s.goodBulletin sender b).panels = s.panels := by
  unfold State.goodBulletin
  repeat' split
  all_goals rfl

theorem takeBulletinFrame_panels : s.takeBulletinFrame.panels = s.panels := by
  unfold State.takeBulletinFrame
  split
  · rfl
  · dsimp only
    split
    · rfl
    · rw [goodBulletin_panels, State.setLine_panels]

theorem outOfPlay_panels (sender : Nat) : (s.outOfPlay sender).panels = s.panels := by
  rw [State.outOfPlay, State.gateAheadClaims, changeStacks_panels, recomputeEffective_panels]

theorem tellOwner_panels (c : InputCfg) (active : Bool) : (s.tellOwner c active).panels = s.panels := by
  unfold State.tellOwner
  split
  case h_1 | h_2 | h_3 => exact panels_of_gates (Display.gateInput_writes ..)
  case h_4 => split <;> rfl
  case h_5 =>
    split
    · exact panels_of_link (lineBusy_writes s)
    · rfl
  all_goals rfl

theorem takeChange_panels (i : Nat) (x : Input) : (s.takeChange i x).panels = s.panels := tellOwner_panels ..

theorem terminalChange_panels (i : Nat) (x : Input) (active : Bool) :
    (s.terminalChange i x active).panels = s.panels := by
  unfold State.terminalChange
  dsimp only
  split_ifs
  · rfl
  · rfl
  · exact takeChange_panels ..
  · rfl

theorem endSettle_panels : s.endSettle.panels = s.panels :=
  (panels_of_gates (GateWrites.foldl Display.releaseSettle_writes _ _)).trans rfl

theorem enterRunning_panels (c : StationCfg) : (s.enterRunning c).panels = s.panels := by
  exact (panels_of_gates (Display.startGates_writes (s.configure c))).trans rfl

/-! ### Orders (R38) -/

theorem applyRecord_panels (e : Nat) (a : OrderAction) : (s.applyRecord e a).panels = s.panels := by
  unfold State.applyRecord
  split
  case h_1 | h_2 =>
    split
    · exact changeStack_panels ..
    · rfl
  case h_3 | h_4 | h_5 => exact panels_of_gates (Display.setMode_writes ..)
  case h_6 => exact panels_of_gates ((Display.setMode_writes ..).trans (Display.setBypass_writes ..))
  all_goals rfl

end

section
variable {s : State}

/-- Of what follows from a bundle, only the recovery of a panel touches a panel (R46, R111). -/
theorem applyEffect_sound (hs : PanelsSound s) (a : OrderAction) : PanelsSound (s.applyEffect a) := by
  have hgate (gate : Nat) {f : GateId → State} (hf : ∀ g, GateWrites s (f g)) :
      PanelsSound ((GateId.ofCode gate).elim s f) := by
    cases GateId.ofCode gate
    · exact hs
    · exact panelsSound_of_eq hs (panels_of_gates (hf _))
  unfold State.applyEffect
  split
  case h_1 gate | h_2 gate | h_3 gate => exact hgate gate (Display.reevaluate_writes s)
  case h_4 gate =>
    exact hgate gate fun g => (Display.reevaluate_writes s g).trans (Display.testLowering_writes ..)
  case h_5 object =>
    split
    case h_1 code _ =>
      cases Panel.ofCode code
      · exact hs
      · exact recoverPanel_sound hs
    case h_2 code =>
      split
      next g _ =>
        cases s.cfg.gates.get g
        · exact hs
        · exact panelsSound_of_eq hs (panels_of_gates (Display.recoverGate_writes ..))
      next => exact hs
    all_goals exact hs
  all_goals exact hs

/-- A bundle, refused or applied, keeps the panels sound. -/
theorem takeBundle_sound (hs : PanelsSound s) (requested : Nat) (acts : List OrderAction) :
    PanelsSound (s.takeBundle requested acts) := by
  have heffects (u : State) (hu : PanelsSound u) : PanelsSound (acts.foldl State.applyEffect u) :=
    List.foldlRecOn (motive := PanelsSound) acts _ hu fun _ hv a _ => applyEffect_sound hv a
  have hrecords (e : Nat) (u : State) (hu : PanelsSound u) :
      PanelsSound (acts.foldl (fun v a => v.applyRecord e a) u) :=
    List.foldlRecOn (motive := PanelsSound) acts _ hu fun v hv a _ => panelsSound_of_eq hv (applyRecord_panels v e a)
  unfold State.takeBundle
  split
  · exact hs
  · refine heffects _ (hrecords _ _ (panelsSound_of_eq hs (panels_of_engine ?_)))
    have hnotices := Display.applyNotices_writes s (s.effective requested) (namedKeys acts) acts
    split
    · exact hnotices.trans (Display.commit_writes _)
    · exact hnotices

end
end Sys2Proof.Panels

/-! Chapter 5: every step keeps the panels sound (R99, R103, R104, R109). -/
namespace Sys2Proof.Panels

open Machine Safety

section
variable {s t u : State} {c : Instr} {f : State → State}

/-! ## The forms of a command -/

/-- A command of a block keeps the panels sound where its effect on a running station does. -/
theorem event_sound (hs : PanelsSound s) (h : s.event c f = .next t) (hf : ∀ u, PanelsSound u → PanelsSound (f u)) :
    PanelsSound t := by
  rcases s.event_next t c f h with ⟨-, rfl⟩ | ⟨-, rfl⟩
  · exact hf (s.take c) hs
  · exact hs

/-- A command of a block that leaves the panel records keeps them sound. -/
theorem event_keeps (hs : PanelsSound s) (h : s.event c f = .next t) (hf : ∀ u, (f u).panels = u.panels) :
    PanelsSound t := event_sound hs h fun u hu => panelsSound_of_eq hu (hf u)

/-- A request keeps the panels sound where its handling does. -/
theorem serve_sound (hs : PanelsSound s) (h : s.serve c f = .next t) (hf : ∀ u, PanelsSound u → PanelsSound (f u)) :
    PanelsSound t := by
  rcases s.serve_next t c f h with rfl | rfl | rfl
  · exact hf (s.take c) hs
  · exact hs
  · exact hs

theorem serve_keeps (hs : PanelsSound s) (h : s.serve c f = .next t) (hf : ∀ u, (f u).panels = u.panels) :
    PanelsSound t := serve_sound hs h fun u hu => panelsSound_of_eq hu (hf u)

theorem serveAlways_keeps (hs : PanelsSound s) (h : s.serveAlways c f = .next t) (hf : ∀ u, (f u).panels = u.panels) :
    PanelsSound t := by
  cases h
  split
  · exact panelsSound_of_eq (s := s.take c) hs (hf _)
  · exact hs

/-- Any other command answers a state whose panels are to be shown sound. -/
theorem next_sound (hu : PanelsSound u) (h : Host.Outcome.next (φ := Fault) (ρ := Refusal) u = .next t) :
    PanelsSound t := by
  cases h
  exact hu

theorem next_keeps (hs : PanelsSound s) (hu : u.panels = s.panels)
    (h : Host.Outcome.next (φ := Fault) (ρ := Refusal) u = .next t) : PanelsSound t :=
  next_sound (panelsSound_of_eq hs hu) h

/-- An effect under a condition leaves the panel records where the effect does. -/
theorem panels_ite {P : Prop} [Decidable P] (h : u.panels = s.panels) : (if P then u else s).panels = s.panels := by
  split
  · exact h
  · rfl

/-! ## The commands of the Panel Drivers (R101 to R109) -/

theorem execRenderTrigger_sound (hs : PanelsSound s) (p : Panel) (lead : Option Lead)
    (h : execRenderTrigger p lead s = .next t) : PanelsSound t := by
  refine event_sound hs h fun u hu => ?_
  split
  · dsimp only
    split
    · exact setPanel_sound hu (hu p)
    next hstate => exact setPanel_sound hu (render_sound (hu p) hstate _ {})
  · exact hu

/-- A render that runs is of a panel without a fault. -/
theorem execRenderComplete_sound (hs : PanelsSound s) (p : Panel) (h : execRenderComplete p s = .next t) :
    PanelsSound t := by
  refine event_sound hs h fun u hu => ?_
  split
  next hrunning =>
    obtain ⟨-, -, hidle, -⟩ := hu p
    exact setPanel_sound hu (render_sound (hu p) (fun hfault => nomatch (hidle hfault).symm.trans hrunning) _ _)
  next => exact hu

theorem execFrameStart_sound (hs : PanelsSound s) (p : Panel) (h : execFrameStart p s = .next t) : PanelsSound t := by
  refine event_sound hs h fun u hu => ?_
  repeat' split
  · exact startFrame_sound hu
  all_goals exact hu

theorem execFlashPeriodExpiry_sound (hs : PanelsSound s) (p : Panel) (h : execFlashPeriodExpiry p s = .next t) :
    PanelsSound t := by
  refine event_sound hs h fun u hu => ?_
  dsimp only
  repeat' split
  · exact setPanel_sound hu (hu p)
  all_goals exact hu

/-- A row is sampled on a SHOWING panel only (R108). -/
theorem sampleRow_showing {x : PanelRec} {cfg : PanelCfg} {now row : Nat} (h : x.sampleRow cfg now = some row) :
    x.state = .showing := by
  unfold PanelRec.sampleRow at h
  split at h
  · split at h
    next hsample =>
      simp only [Bool.and_eq_true, decide_eq_true_eq] at hsample
      obtain ⟨⟨hshowing, -⟩, -⟩ := hsample
      exact hshowing
    next => cases h
  · cases h

theorem execLampCheckSample_sound (hs : PanelsSound s) (p : Panel) (h : execLampCheckSample p s = .next t) :
    PanelsSound t := by
  refine event_sound hs h fun u hu => ?_
  dsimp only
  repeat' split
  next hrow _ => exact checkRow_sound hu (sampleRow_showing hrow) _ _
  next => exact setPanel_sound hu (hu p)
  all_goals exact hu

theorem execBrightnessEvaluation_sound (hs : PanelsSound s) (p : Panel) (light : Int)
    (h : execBrightnessEvaluation p light s = .next t) : PanelsSound t := by
  refine event_sound hs h fun u hu => ?_
  split
  · exact setPanel_sound hu (hu p)
  · exact hu

/-! ## Start, reset and requests (R47, R182, R186, R187) -/

theorem execLoadingEnd_sound (hs : PanelsSound s) (image : Image) (h : execLoadingEnd image s = .next t) :
    PanelsSound t := by
  refine next_keeps hs ?_ h
  repeat' split
  · rfl
  · exact enterRunning_panels ..
  · rfl

theorem execResponseComplete_sound (hs : PanelsSound s) (h : execResponseComplete s = .next t) : PanelsSound t := by
  refine next_sound ?_ h
  split
  · split
    · exact doReset_sound (s.take .responseComplete)
    · exact panelsSound_of_eq hs ((panels_of_link (applySetting_writes _)).trans rfl)
  all_goals exact hs

theorem execOrder_sound (hs : PanelsSound s) (body : List Byte) (h : execOrder body s = .next t) : PanelsSound t := by
  refine serve_sound hs h fun u hu => ?_
  split
  · exact hu
  · exact takeBundle_sound hu _ _

theorem execServicePortCharacter_sound (hs : PanelsSound s) (ch : Byte) (framingError parityError : Bool)
    (h : execServicePortCharacter ch framingError parityError s = .next t) : PanelsSound t := by
  refine next_keeps hs ?_ h
  dsimp only
  repeat' split
  case h_2 => exact panels_of_link (receive_writes ..)
  all_goals rfl

theorem execRequestGapTimeout_sound (hs : PanelsSound s) (h : execRequestGapTimeout s = .next t) : PanelsSound t := by
  refine next_keeps hs ?_ h
  split
  · exact panels_ite rfl
  all_goals rfl

/-! ## The commands of the other blocks -/

theorem execRefreshTick_sound (hs : PanelsSound s) (h : execRefreshTick s = .next t) : PanelsSound t := by
  refine event_keeps hs h fun u => ?_
  split
  · exact panels_ite (panels_of_engine (Display.refresh_writes u _))
  · rfl

theorem execMotionLimitExpiry_sound (hs : PanelsSound s) (g : GateId) (h : execMotionLimitExpiry g s = .next t) :
    PanelsSound t := by
  refine event_keeps hs h fun u => ?_
  split
  next cfg _ _ _ => exact panels_ite (panels_of_gates (Display.moved_writes _ (Orders.enterFault_eq u g cfg _)))
  next => rfl

theorem execBeamClearTimeExpiry_sound (hs : PanelsSound s) (g : GateId) (h : execBeamClearTimeExpiry g s = .next t) :
    PanelsSound t := by
  refine event_keeps hs h fun u => ?_
  split
  next cfg _ _ _ => exact panels_ite (panels_of_gates (Display.moved_writes _ (Orders.enterLowering_eq u g cfg)))
  next => rfl

theorem execScanStart_sound (hs : PanelsSound s) (h : execScanStart s = .next t) : PanelsSound t := by
  refine event_keeps hs h fun u => ?_
  split
  · exact panels_ite rfl
  · rfl

theorem execScanComplete_sound (hs : PanelsSound s) (raws : List Raw) (h : execScanComplete raws s = .next t) :
    PanelsSound t := by
  refine event_keeps hs h fun u => ?_
  split
  · exact panels_ite rfl
  · rfl

theorem execSlidePulse_sound (hs : PanelsSound s) (h : execSlidePulse s = .next t) : PanelsSound t := by
  refine event_keeps hs h fun u => ?_
  split <;> rfl

theorem execAutomaticIssue_sound (hs : PanelsSound s) (path : Nat) (h : execAutomaticIssue path s = .next t) :
    PanelsSound t := by
  refine event_keeps hs h fun u => ?_
  repeat' split
  · exact automaticIssue_panels ..
  all_goals rfl

theorem execAutomaticLift_sound (hs : PanelsSound s) (path : Nat) (h : execAutomaticLift path s = .next t) :
    PanelsSound t := by
  refine event_keeps hs h fun u => ?_
  split
  · rw [State.setPath_panels]
    split
    · rw [panels_of_engine (Display.commit_writes _), panels_of_engine (Display.liftSlot_writes ..)]
    · rfl
  all_goals rfl

theorem execBulletinTime_sound (hs : PanelsSound s) (h : execBulletinTime s = .next t) : PanelsSound t := by
  refine event_keeps hs h fun u => ?_
  split
  · exact panels_ite rfl
  · rfl

theorem execPeriodBoundary_sound (hs : PanelsSound s) (entry : Nat) (h : execPeriodBoundary entry s = .next t) :
    PanelsSound t := by
  refine event_keeps hs h fun u => ?_
  split
  · refine panels_ite ?_
    split
    · rw [outOfPlay_panels, State.setPeer_panels]
    · rfl
  · rfl

theorem execLineCharacterReceived_sound (hs : PanelsSound s) (ch : Byte) (framingError : Bool)
    (h : execLineCharacterReceived ch framingError s = .next t) : PanelsSound t := by
  refine next_keeps hs ?_ h
  split
  · refine Eq.trans ?_ (panels_of_link (endGap_writes s))
    dsimp only
    split
    · rfl
    all_goals exact (panels_of_link (assemble_writes ..)).trans rfl
  · rfl

theorem execLineBusy_sound (hs : PanelsSound s) (h : execLineBusy s = .next t) : PanelsSound t := by
  refine next_keeps hs ?_ h
  exact panels_ite (panels_of_link ((lineBusy_writes s).trans rfl))

theorem execTransmitStart_sound (hs : PanelsSound s) (h : execTransmitStart s = .next t) : PanelsSound t := by
  refine event_keeps hs h fun u => ?_
  split
  · exact panels_of_link (startSending_writes ..)
  · rfl

theorem execTransmitCharacterEnd_sound (hs : PanelsSound s) (h : execTransmitCharacterEnd s = .next t) :
    PanelsSound t := by
  refine event_keeps hs h fun u => ?_
  split
  · refine panels_ite (panels_of_link ?_)
    split
    · exact sendOn_writes ..
    · exact collide_writes ..
  all_goals rfl

theorem execTerminalLevelChange_sound (hs : PanelsSound s) (input : Nat) (active : Bool)
    (h : execTerminalLevelChange input active s = .next t) : PanelsSound t := by
  refine next_keeps hs ?_ h
  split
  · split
    · exact terminalChange_panels ..
    · rfl
  · rfl

theorem execDebounceExpiry_sound (hs : PanelsSound s) (input : Nat) (h : execDebounceExpiry input s = .next t) :
    PanelsSound t := by
  refine event_keeps hs h fun u => ?_
  split
  · exact panels_ite (takeChange_panels ..)
  · rfl

/-- Whatever command a station takes, its panels stay sound. -/
theorem exec_sound (hs : PanelsSound s) (h : exec c s = .next t) : PanelsSound t := by
  cases c <;> dsimp only [exec] at h
  case reset => exact next_sound (doReset_sound s) h
  case loadingEntry => exact next_keeps hs (by split <;> rfl) h
  case loadingEnd image => exact execLoadingEnd_sound hs _ h
  case responseComplete => exact execResponseComplete_sound hs h
  case renderTrigger p lead => exact execRenderTrigger_sound hs _ _ h
  case renderComplete p => exact execRenderComplete_sound hs _ h
  case frameStart p => exact execFrameStart_sound hs _ h
  case flashPeriodExpiry p => exact execFlashPeriodExpiry_sound hs _ h
  case lampCheckSample p => exact execLampCheckSample_sound hs _ h
  case brightnessEvaluation p light => exact execBrightnessEvaluation_sound hs _ _ h
  case issue | amend | lift | post | clearPost | holdOpen | holdClosed | release | forceClose | clearFault | restart =>
    exact serve_sound hs h fun _ hu => takeBundle_sound hu _ _
  case order body => exact execOrder_sound hs _ h
  case status | unknownRequest => exact serveAlways_keeps hs h fun _ => rfl
  case readNoticeBySlot | readNoticeByKey | readSectionMapEntry | readPeerEntry | readLocalPath | readRemotePath
  | readRingRecord | readSensorRole | readPanel | readGate =>
    exact serve_keeps hs h fun u => panels_of_link (answer_writes u _)
  case readLatches | readCounters | clearCounters => exact serve_keeps hs h fun _ => rfl
  case readDescriptor | clearLatches => exact serve_keeps hs h fun u => by split <;> rfl
  case servicePortCharacter ch framingError parityError => exact execServicePortCharacter_sound hs _ _ _ h
  case requestGapTimeout => exact execRequestGapTimeout_sound hs h
  case settleEnd => exact event_keeps hs h fun u => panels_ite (endSettle_panels u)
  case noticeFrameTaken => exact event_keeps hs h fun u => panels_of_engine (Display.takeNoticeFrame_writes u)
  case noticeExpiry => exact event_keeps hs h fun u => panels_ite (panels_of_engine (Display.expireDue_writes u))
  case tombstonePurge => exact event_keeps hs h fun u => panels_ite (panels_of_engine (Display.purgeDue_writes u))
  case refreshTick => exact execRefreshTick_sound hs h
  case catchUp => exact event_keeps hs h fun u => panels_of_engine (Display.setCatchUp_writes u)
  case demandReevaluation g => exact event_keeps hs h fun u => panels_of_gates (Display.reevaluate_writes u g)
  case preWarningExpiry g => exact event_keeps hs h fun u => panels_of_gates (Display.testLowering_writes u g)
  case shownDurationReached g p => exact event_keeps hs h fun u => panels_of_gates (Display.testLowering_writes u g)
  case leadStateReport p =>
    exact event_keeps hs h fun u =>
      panels_of_gates (Display.GateWrites.foldl (fun v g => Display.testForPanel_writes v g p) GateId.all u)
  case motionLimitExpiry g => exact execMotionLimitExpiry_sound hs _ h
  case beamClearTimeExpiry g => exact execBeamClearTimeExpiry_sound hs _ h
  case flasherPhase g => exact event_keeps hs h fun u => by split <;> rfl
  case noticeClaim | hazardClaim | gateAheadClaim => exact event_keeps hs h fun u => changeStacks_panels u _
  case weatherRuleEvaluation => exact event_keeps hs h fun u => panels_ite (changeStacks_panels u (Display.weatherChange u))
  case postEnd => exact event_keeps hs h fun u => panels_ite (changeStacks_panels u _)
  case gateClaimRequest g ask => exact event_keeps hs h fun u => gateClaims_panels u g ask
  case fieldReformat p => exact event_keeps hs h fun u => reformat_panels u p
  case accessedMark | latchSetRequest => exact event_keeps hs h fun _ => rfl
  case scanStart => exact execScanStart_sound hs h
  case scanComplete raws => exact execScanComplete_sound hs _ h
  case slidePulse => exact execSlidePulse_sound hs h
  case hourlyAppend => exact event_keeps hs h fun u => panels_ite (hearAndCompute_panels u.closeHour)
  case hazardComputation => exact event_keeps hs h fun u => panels_ite (hearAndCompute_panels u)
  case automaticIssue path => exact execAutomaticIssue_sound hs _ h
  case automaticLift path => exact execAutomaticLift_sound hs _ h
  case noticeChangeReport r => exact event_keeps hs h fun u => hearReport_panels u r
  case effectiveLevelRecompute => exact event_keeps hs h recomputeEffective_panels
  case bulletinTime => exact execBulletinTime_sound hs h
  case bulletinFrameTaken => exact event_keeps hs h takeBulletinFrame_panels
  case periodBoundary entry => exact execPeriodBoundary_sound hs _ h
  case lineCharacterReceived ch framingError => exact execLineCharacterReceived_sound hs _ _ h
  case lineBusy => exact execLineBusy_sound hs h
  case receiveGapTimeout => exact event_keeps hs h fun u => panels_of_link (endGap_writes u)
  case transmitStart => exact execTransmitStart_sound hs h
  case transmitCharacterEnd => exact execTransmitCharacterEnd_sound hs h
  case terminalLevelChange input active => exact execTerminalLevelChange_sound hs _ _ h
  case debounceExpiry input => exact execDebounceExpiry_sound hs _ h

/-- Settles O57: every command keeps the panels sound, and so does the passing of time. -/
theorem panelsKept : Obligations.PanelsKept := by
  intro s t hs h
  cases hp : s.pending with
  | cons c rest =>
    rw [step_pending s c rest hp] at h
    exact exec_sound (s := { s with pending := rest }) hs h
  | nil =>
    cases hm : s.told with
    | cons c rest =>
      rw [step_told s c rest hp hm] at h
      exact exec_sound hs h
    | nil =>
      rw [step_tick s hp hm] at h
      cases h
      exact runClock_sound hs

end
end Sys2Proof.Panels

/-! Chapter 5: the layout of a text, and the render of a lead (R100 to R102, R110). -/
namespace Sys2Proof.Panels

open Machine Safety

/-! ## The layout of a text (R75, R100) -/

/-- The lines of a text are what stands between its line breaks. -/
theorem splitLines_eq (text : List Byte) : splitLines text = text.splitOn 0x0A#8 := by
  induction text with
  | nil => rfl
  | cons c cs ih =>
    obtain ⟨l, ls, hl⟩ := List.exists_cons_of_ne_nil (List.splitOnP_ne_nil (· == 0x0A#8) cs)
    have hcs : cs.splitOn 0x0A#8 = l :: ls := hl
    rw [splitLines, ih, List.splitOn_cons_eq_if_modifyHead, hcs]
    simp only [beq_iff_eq, List.modifyHead_cons]

theorem lineCells_eq (codes : List Byte) : lineCells codes = cellsOf codes :=
  congrArg List.sum (List.map_congr_left fun c _ => by simp [cells, isPictogram])

theorem laidCode_eq (c : Byte) : laidCode c =
    if (0x20 ≤ c.toNat ∧ c.toNat ≤ 0x7E) ∨ (0x80 ≤ c.toNat ∧ c.toNat ≤ 0x8B) then c else 0x20#8 := by
  simp only [laidCode, isPictogram, isPrintable, Bool.or_eq_true, Bool.and_eq_true, decide_eq_true_eq, or_comm]

/-- A line is cut before the first code that does not fit. -/
theorem truncateLine_eq_take (width : Nat) (codes : List Byte) : ∃ n ≤ codes.length,
    truncateLine width codes = codes.take n ∧ lineCells (codes.take n) ≤ width ∧
      (n < codes.length → width < lineCells (codes.take (n + 1))) := by
  induction codes generalizing width with
  | nil => exact ⟨0, le_rfl, rfl, Nat.zero_le width, fun h => absurd h (Nat.lt_irrefl 0)⟩
  | cons c cs ih =>
    by_cases hfit : cells c ≤ width
    · obtain ⟨n, hn, htake, hcells, hnext⟩ := ih (width - cells c)
      refine ⟨n + 1, Nat.succ_le_succ hn, ?_, ?_, fun hlt => ?_⟩
      · rw [truncateLine, if_pos hfit, htake, List.take_succ_cons]
      · simp only [lineCells, List.take_succ_cons, List.map_cons, List.sum_cons] at hcells ⊢
        omega
      · have hover := hnext (Nat.lt_of_succ_lt_succ hlt)
        simp only [lineCells, List.take_succ_cons, List.map_cons, List.sum_cons] at hover ⊢
        omega
    · refine ⟨0, Nat.zero_le _, by rw [truncateLine, if_neg hfit, List.take_zero], Nat.zero_le width, fun _ => ?_⟩
      simpa [lineCells] using hfit

/-- A line that is placed stands cut and centred in its rows (R100, steps 3 to 5). -/
theorem placeLine_laidAt (width top : Nat) (line : List Byte) : LaidAt width top line (placeLine width top line) := by
  obtain ⟨n, hn, htake, hcells, hnext⟩ := truncateLine_eq_take width (line.map laidCode)
  refine ⟨line.map laidCode, n, by simp only [← laidCode_eq], hn, ?_, ?_, ?_⟩
  · rwa [← lineCells_eq]
  · rwa [← lineCells_eq]
  · simp only [placeLine, htake, lineCells_eq]

section
variable {c : PanelCfg} {text first second : List Byte} {more : List (List Byte)}

/-- A panel of 8 rows shows the first line. -/
theorem layText_of_low (hrows : c.rows = 8) (h : text.splitOn 0x0A#8 = first :: more) :
    layText c text = [placeLine (c.columns / 6) 0 first] := by
  rw [layText, if_pos hrows, splitLines_eq, h]
  rfl

/-- A panel of 16 rows shows one line in its middle. -/
theorem layText_of_one (hrows : c.rows = 16) (h : text.splitOn 0x0A#8 = [first]) :
    layText c text = [placeLine (c.columns / 6) 4 first] := by
  rw [layText, if_neg (by omega), splitLines_eq, h]
  rfl

/-- A panel of 16 rows shows the first two of several lines, one above the other. -/
theorem layText_of_two (hrows : c.rows = 16) (h : text.splitOn 0x0A#8 = first :: second :: more) :
    layText c text = [placeLine (c.columns / 6) 0 first, placeLine (c.columns / 6) 8 second] := by
  rw [layText, if_neg (by omega), splitLines_eq, h]
  rfl

end

/-! ## The render of a lead (R101, R102, R110) -/

section
variable {s : State} {p : Panel} {c : PanelCfg}

theorem exec_renderTrigger (hs : s.startUp = .running) (hc : s.cfg.panels.get p = some c) (lead : Option Lead) :
    exec (.renderTrigger p lead) s = .next { s.take (.renderTrigger p lead) with
      panels := s.panels.set p (if (s.panels.get p).state = .fault then { s.panels.get p with pendingLead := lead }
        else { s.panels.get p with pendingLead := lead, render := .running s.clock, back := ⟨none, false, []⟩ }) } := by
  show execRenderTrigger p lead s = _
  rw [execRenderTrigger, Gates.event_of_startUp hs]
  simp only [State.take_cfg, hc, Option.isSome_some, if_true]
  rfl

theorem exec_renderComplete {u : Nat} (hs : s.startUp = .running) (hc : s.cfg.panels.get p = some c)
    (hrender : (s.panels.get p).render = .running u) :
    exec (.renderComplete p) s = .next ((s.take (.renderComplete p)).setPanel p
      { s.panels.get p with back := layLead c (s.panels.get p).pendingLead, render := .ready }) := by
  show execRenderComplete p s = _
  rw [execRenderComplete, Gates.event_of_startUp hs]
  simp only [State.take_cfg, State.take_panels, hc, hrender]

end

/-- Settles O39: each line of a text is placed as `placeLine_laidAt` gives, and each row has its effect on the running
station. -/
theorem renders : Obligations.Renders := by
  refine ⟨fun c text first more hlines => ⟨fun hrows => ?low, fun hrows hone => ?one, fun second rest hrows hmore => ?two⟩,
    fun s p c hs hc => ⟨exec_renderTrigger hs hc, fun u hrender => ?complete⟩⟩
  case low => exact ⟨_, layText_of_low hrows hlines, placeLine_laidAt ..⟩
  case one => exact ⟨_, layText_of_one hrows (hone ▸ hlines), placeLine_laidAt ..⟩
  case two =>
    exact ⟨_, _, layText_of_two hrows (hmore ▸ hlines), placeLine_laidAt .., placeLine_laidAt ..⟩
  case complete =>
    rw [exec_renderComplete hs hc hrender]
    cases (s.panels.get p).pendingLead <;> rfl

end Sys2Proof.Panels

/-! Chapter 5: the flash period and the lamp check (R107 to R109). -/
namespace Sys2Proof.Panels

open Machine Safety

section
variable {s : State} {p : Panel} {c : PanelCfg}

/-! ## The flash period (R107) -/

theorem flashUs_eq (c : PanelCfg) (phase : FlashPhase) :
    flashUs c phase = (if phase = .shown then c.flashOn else c.flashOff) * 100000 := by
  cases phase <;> rfl

/-- The flash period of a flashing lead ends in a running station. -/
theorem exec_flashPeriodExpiry (hs : s.startUp = .running) (hc : s.cfg.panels.get p = some c)
    (hrun : (s.panels.get p).periodRun c s.clock = true) :
    exec (.flashPeriodExpiry p) s = .next ((s.take (.flashPeriodExpiry p)).setPanel p { s.panels.get p with
      phaseDue := true, phaseFrom := (s.panels.get p).phaseFrom + flashUs c (s.panels.get p).phase }) := by
  show execFlashPeriodExpiry p s = _
  rw [execFlashPeriodExpiry, Gates.event_of_startUp hs]
  simp only [State.take_cfg, State.take_panels, State.take_clock, hc, hrun, if_true]

/-! ## The lamp check (R108, R109) -/

/-- The row to be sampled is the one in whose slot's on-time the clock stands. -/
theorem sampleRow_of_lit {x : PanelRec} {now start : Nat} (hshowing : x.state = .showing) (hsampled : x.sampled = false)
    (hframe : x.frameAt = some start) (hslot : now - start < c.rows * 1000)
    (hlit : (now - start) % 1000 < onTime c x.slotStep) : x.sampleRow c now = some ((now - start) / 1000) := by
  have hat : x.slotAt c now = some ((now - start) / 1000, (now - start) % 1000) := by
    simp only [PanelRec.slotAt, hframe]
    exact if_pos hslot
  simp [PanelRec.sampleRow, hat, hshowing, hsampled, hlit]

/-- A row is checked where it is driven with a lit pixel, and otherwise passed over. -/
theorem exec_lampCheckSample {current : Bool} {row : Nat} (hs : s.startUp = .running)
    (hc : s.cfg.panels.get p = some c) (hsense : s.sense p = some current)
    (hrow : (s.panels.get p).sampleRow c s.clock = some row) :
    exec (.lampCheckSample p) s = .next
      (if (s.panels.get p).driven = false ∨ (s.panels.get p).front.rowLit c.columns row = false then
        (s.take (.lampCheckSample p)).setPanel p { s.panels.get p with sampled := true }
      else (s.take (.lampCheckSample p)).checkRow p row current) := by
  have hsense' : (s.take (.lampCheckSample p)).sense p = some current := hsense
  show execLampCheckSample p s = _
  rw [execLampCheckSample, Gates.event_of_startUp hs]
  simp only [State.take_cfg, State.take_panels, State.take_clock, hc, hsense', hrow, Bool.and_eq_true]
  split
  next hlit => rw [if_neg (by simp [hlit])]
  next hdark => rw [if_pos (by simpa [-not_and, not_and_or] using hdark)]

/-- A checked row with current has no miss counted any more. -/
theorem checkRow_of_current (row : Nat) : s.checkRow p row true = s.setPanel p { s.panels.get p with
    sampled := true, misses := (s.panels.get p).misses.set row 0 } := rfl

/-- A first or second miss is counted. -/
theorem checkRow_of_early_miss {row : Nat} (h : (s.panels.get p).misses.getD row 0 < 2) :
    s.checkRow p row false = s.setPanel p { s.panels.get p with
      sampled := true, misses := (s.panels.get p).misses.set row ((s.panels.get p).misses.getD row 0 + 1) } :=
  if_neg (not_le.mpr (Nat.succ_lt_succ h))

/-- The third miss puts the panel in FAULT. -/
theorem checkRow_of_third_miss {row : Nat} (h : ¬(s.panels.get p).misses.getD row 0 < 2) :
    s.checkRow p row false = (s.setPanel p (PanelRec.enterFault { s.panels.get p with
      sampled := true, misses := (s.panels.get p).misses.set row ((s.panels.get p).misses.getD row 0 + 1) } row)).tell
        [.leadStateReport p, .latchSetRequest (.panelFault p)] :=
  if_pos (Nat.succ_le_succ (not_lt.mp h))

end

/-- Settles O41: the period that has run by `exec_flashPeriodExpiry`, and a sample by what `checkRow` does with it. -/
theorem flashAndLampCheck : Obligations.FlashAndLampCheck := by
  intro s p c x hs hc hx hshowing
  subst hx
  refine ⟨fun j b hb => by simp [onTime, hb], fun hflash hdue hrun => ?flash,
    fun current u row hsense hsampled hframe hslot hrow hlit => ?sample⟩
  case flash =>
    have hperiod : (s.panels.get p).periodRun c s.clock = true := by
      rw [← flashUs_eq, ← Orders.hasRun_iff] at hrun
      simp [PanelRec.periodRun, hshowing, hflash, hdue, hrun]
    rw [exec_flashPeriodExpiry hs hc hperiod, flashUs_eq]
    rfl
  case sample =>
    subst hrow
    rw [exec_lampCheckSample hs hc hsense (sampleRow_of_lit hshowing hsampled hframe hslot hlit)]
    split
    · rfl
    · cases current
      case true => rfl
      case false =>
        rw [if_neg Bool.false_ne_true]
        split
        next hearly => exact congrArg Host.Outcome.next (checkRow_of_early_miss hearly)
        next hthird => exact congrArg Host.Outcome.next (checkRow_of_third_miss hthird)

end Sys2Proof.Panels

/-! Chapter 5: the brightness step (R106). -/
namespace Sys2Proof.Panels

open Machine Safety

section
variable {c : PanelCfg} {light : Int} {step : Nat}

/-- Moving down ends at the highest step whose falling point the light has, or at step 0. -/
theorem stepDown_spec (c : PanelCfg) (light : Int) (step : Nat) : stepDown c light step ≤ step ∧
    (0 < stepDown c light step → (lampFallingPoint c (stepDown c light step) : Int) ≤ light) ∧
    ∀ j, stepDown c light step < j → j ≤ step → light < (lampFallingPoint c j : Int) := by
  induction step with
  | zero => exact ⟨le_rfl, nofun, fun j hlow hhigh => absurd hlow (by simpa [stepDown] using hhigh)⟩
  | succ k ih =>
    obtain ⟨hle, hreached, hbelow⟩ := ih
    rw [stepDown]
    split
    next hfall =>
      refine ⟨Nat.le_succ_of_le hle, hreached, fun j hlow hhigh => ?_⟩
      rcases Nat.le_succ_iff.mp hhigh with hj | rfl
      · exact hbelow j hlow hj
      · exact hfall
    next hstay => exact ⟨le_rfl, fun _ => not_lt.mp hstay, fun j hlow hhigh => absurd hlow (not_lt.mpr hhigh)⟩

/-- Looking down from the highest number below a bound finds the highest one that a test takes. -/
theorem find?_reverse_range {q : Nat → Bool} {n k : Nat} (h : (List.range n).reverse.find? q = some k) :
    k < n ∧ q k = true ∧ ∀ j, k < j → j < n → q j = false := by
  induction n with
  | zero => cases h
  | succ n ih =>
    rw [List.range_succ, List.reverse_append, List.reverse_singleton, List.singleton_append,
      List.find?_cons_eq_some, Bool.not_eq_true'] at h
    rcases h with ⟨htaken, rfl⟩ | ⟨hnot, hbelow⟩
    · exact ⟨Nat.lt_succ_self n, htaken, fun j hlow hhigh => by omega⟩
    · obtain ⟨hlt, htaken, habove⟩ := ih hbelow
      refine ⟨Nat.lt_succ_of_lt hlt, htaken, fun j hlow hhigh => ?_⟩
      rcases Nat.lt_succ_iff_lt_or_eq.mp hhigh with hj | rfl
      · exact habove j hlow hj
      · exact hnot

/-- An evaluation moves up to the highest of the 8 steps above the panel's that the light has reached. -/
theorem newStep_of_reached (h : ∃ j, step < j ∧ j ≤ 7 ∧ (threshold c j : Int) ≤ light) :
    step < newStep c light step ∧ newStep c light step ≤ 7 ∧ (threshold c (newStep c light step) : Int) ≤ light ∧
      ∀ j, newStep c light step < j → j ≤ 7 → light < (threshold c j : Int) := by
  obtain ⟨j, hup, hlast, hreached⟩ := h
  unfold newStep
  split
  next k hk =>
    obtain ⟨hlt, htaken, habove⟩ := find?_reverse_range hk
    obtain ⟨hhigher, hmet⟩ : step < k ∧ (threshold c k : Int) ≤ light := by simpa using htaken
    refine ⟨hhigher, Nat.lt_succ_iff.mp hlt, hmet, fun i hlow hhigh => ?_⟩
    simpa [hhigher.trans hlow] using habove i hlow (Nat.lt_succ_of_le hhigh)
  next hnone =>
    have hnot := List.find?_eq_none.mp hnone j (by simp; omega)
    simp [hup, hreached] at hnot

/-- Where the light has reached no higher step, an evaluation moves down. -/
theorem newStep_of_unreached (h : ∀ j, step < j → j ≤ 7 → light < (threshold c j : Int)) :
    newStep c light step = stepDown c light step := by
  unfold newStep
  split
  next k hk =>
    obtain ⟨hlt, htaken, -⟩ := find?_reverse_range hk
    obtain ⟨hhigher, hmet⟩ : step < k ∧ (threshold c k : Int) ≤ light := by simpa using htaken
    exact absurd hmet (not_le.mpr (h k hhigher (Nat.lt_succ_iff.mp hlt)))
  next => rfl

end

theorem exec_brightnessEvaluation {s : State} {p : Panel} {c : PanelCfg} (hs : s.startUp = .running)
    (hc : s.cfg.panels.get p = some c) (light : Int) :
    exec (.brightnessEvaluation p light) s = .next ((s.take (.brightnessEvaluation p light)).setPanel p
      { s.panels.get p with step := newStep c light (s.panels.get p).step }) := by
  show execBrightnessEvaluation p light s = _
  rw [execBrightnessEvaluation, Gates.event_of_startUp hs]
  simp only [State.take_cfg, State.take_panels, hc]

/-- Settles O42: the new step is the highest one reached, or the one to which the step moves down. -/
theorem brightnessSteps : Obligations.BrightnessSteps := by
  intro s p c light old hs hc hold _
  subst hold
  refine ⟨fun j b hb => by simp [threshold, hb], newStep c light (s.panels.get p).step,
    exec_brightnessEvaluation hs hc light, newStep_of_reached, fun hunreached => ?_⟩
  rw [newStep_of_unreached hunreached]
  exact stepDown_spec ..

end Sys2Proof.Panels

/-! Chapters 6 to 8: what a change has to keep for the sensor records, the peer table and the path records to stay sound. -/
namespace Sys2Proof.Records

open Machine Safety
open Display (EngineWrites GateWrites)
open Panels (LinkWrites)

/-! ## What a change keeps -/

/-- A change that keeps the sensor records sound, the peer table sound, and the path records in place. -/
structure Keeps (s t : State) : Prop where
  sensors : SensorsSound s → SensorsSound t
  peers : PeersSound s → PeersSound t
  paths : PathsSound s → PathsSound t

/-- What the three rest on: the Acquisition Unit, the peer table, the Hazard Unit and the configuration. -/
def records (s : State) : Acquisition × List (Option Peer) × Hazard × StationCfg :=
  (s.acq, s.bulletin.peers, s.hazard, s.cfg)

section
variable {s t u : State}

theorem Keeps.refl (s : State) : Keeps s s := ⟨id, id, id⟩

theorem Keeps.trans (h : Keeps s t) (h' : Keeps t u) : Keeps s u :=
  ⟨h'.sensors ∘ h.sensors, h'.peers ∘ h.peers, h'.paths ∘ h.paths⟩

/-- A change made under a condition. -/
theorem Keeps.ite {P : Prop} [Decidable P] (h : Keeps s t) : Keeps s (if P then t else s) := by
  split
  · exact h
  · exact .refl s

/-- A change made for each item of a list. -/
theorem Keeps.foldl {α : Type} {f : State → α → State} (hf : ∀ s x, Keeps s (f s x)) (xs : List α) (s : State) :
    Keeps s (xs.foldl f s) :=
  List.foldlRecOn (motive := Keeps s) xs f (.refl s) fun u hu x _ => hu.trans (hf u x)

/-- What leaves the records keeps them. -/
theorem keeps_of_records (h : records t = records s) : Keeps s t := by
  obtain ⟨hacq, hrest⟩ := Prod.mk.inj h
  obtain ⟨hpeers, hrest⟩ := Prod.mk.inj hrest
  obtain ⟨hhazard, hcfg⟩ := Prod.mk.inj hrest
  exact ⟨by simp only [SensorsSound, hacq, imp_self], by simp only [PeersSound, hpeers, imp_self],
    by simp only [PathsSound, hhazard, hcfg, imp_self]⟩

theorem keeps_of_engine (h : EngineWrites s t) : Keeps s t := by
  have hr := congrArg records h
  exact keeps_of_records hr

theorem keeps_of_gates (h : GateWrites s t) : Keeps s t := by
  have hr := congrArg records h
  exact keeps_of_records hr

theorem keeps_of_link (h : LinkWrites s t) : Keeps s t := by
  have hr := congrArg records h
  exact keeps_of_records hr

variable (s)

theorem tell_keeps (cs : List Instr) : Keeps s (s.tell cs) := keeps_of_records rfl

theorem take_keeps (c : Instr) : Keeps s (s.take c) := keeps_of_records rfl

theorem setLine_keeps (l : Line) : Keeps s (s.setLine l) := keeps_of_records rfl

theorem setPort_keeps (x : PortState) : Keeps s (s.setPort x) := keeps_of_records rfl

theorem respond_keeps (st : Status) (data : List Byte) : Keeps s (s.respond st data) := keeps_of_records rfl

theorem changeStack_keeps (p : Panel) (f : List Claim → List Claim) : Keeps s (s.changeStack p f) := by
  have hr := congrArg records (s.changeStack_frame p f)
  exact keeps_of_records hr

theorem changeStacks_keeps (F : Panel → List Claim → List Claim) : Keeps s (s.changeStacks F) :=
  .foldl (fun u p => changeStack_keeps u p _) _ s

end

/-! ## The sensor records (R114, R117 to R120, R123, R125) -/

section
variable {x : RoleRec} {raw now : Nat}

theorem role_reset_sound : RoleSound RoleRec.reset := by simp [RoleSound, RoleRec.reset]

theorem loadedRole_sound (c : StationCfg) (r : Role) : RoleSound (loadedRole c r) := by
  unfold loadedRole
  split
  · simp [RoleSound, RoleRec.reset]
  · exact role_reset_sound

/-- A sound role is sound after a faulted sample, whether it is the 60th in a row or an earlier one (R120). -/
theorem faultedSample_sound (hx : RoleSound x) : RoleSound (faultedSample x raw now) := by
  obtain ⟨hvalid, hunmeasured, hfailed⟩ := hx
  by_cases hfew : x.faults < 59
  · rw [Display.faultedSample_of_few hfew]
    have hfaults : x.faults + 1 < 60 := by omega
    refine ⟨fun h => ?_, fun h => ?_, fun h => ?_⟩
    · obtain ⟨hfiltered, -, hsince⟩ := hvalid h
      exact ⟨hfiltered, hfaults, hsince⟩
    · obtain ⟨hfiltered, -, hsince⟩ := hunmeasured h
      exact ⟨hfiltered, hfaults, hsince⟩
    · obtain ⟨hsixty, -⟩ := hfailed h
      omega
  · have hmany : 59 ≤ x.faults := by omega
    cases hv : x.validity with
    | valid => simp [Display.faultedSample_of_valid hmany hv, RoleSound]
    | unmeasured =>
      obtain ⟨-, -, hsince⟩ := hunmeasured hv
      simp [Display.faultedSample_of_unmeasured hmany hv, RoleSound, hsince]
    | failed =>
      obtain ⟨-, hsince⟩ := hfailed hv
      simp [Display.faultedSample_of_failed hmany hv, RoleSound, hv, hsince]
    | notConfigured =>
      have hkept : (faultedSample x raw now).validity = .notConfigured := by
        simp only [faultedSample, hv]
        split <;> rfl
      simp [RoleSound, hkept]

theorem sampleRole_sound (r : Role) (e : ScanEntry) (hx : RoleSound x) : RoleSound (sampleRole x r e raw now) := by
  unfold sampleRole
  split
  · exact faultedSample_sound hx
  · simp [RoleSound, goodSample]

/-- The result of a scan entry keeps every role sound. -/
theorem takeEntry_sound {a : Acquisition} (ha : ∀ r, RoleSound (a.roles.get r)) (y : ScanEntry × Nat × Nat) (q : Role) :
    RoleSound ((takeEntry now a y).roles.get q) := by
  unfold takeEntry
  split
  next r _ =>
    by_cases hq : q = r
    · rw [hq, PerRole.get_set_self]
      exact sampleRole_sound r _ (ha r)
    · rw [PerRole.get_set_other _ _ _ _ hq]
      exact ha q
  next => exact ha q

/-- All results of a scan keep every role sound (R116). -/
theorem scan_sound {a : Acquisition} (ha : ∀ r, RoleSound (a.roles.get r)) (ys : List (ScanEntry × Nat × Nat)) :
    ∀ r, RoleSound ((ys.foldl (takeEntry now) a).roles.get r) :=
  List.foldlRecOn (motive := fun b : Acquisition => ∀ r, RoleSound (b.roles.get r)) ys _ ha
    fun _ hb y _ => takeEntry_sound hb y

/-- An hour record that is later than those of the ring keeps the ring in rising hour order (R124, R125). -/
theorem appendHour_sound {ring : List HourRec} {x : HourRec} (hlen : ring.length ≤ 24)
    (hrise : (ring.map (·.hour)).Pairwise (· < ·)) (hlate : ∀ y ∈ ring, y.hour < x.hour) :
    (appendHour ring x).length ≤ 24 ∧ ((appendHour ring x).map (·.hour)).Pairwise (· < ·) := by
  have hadd (xs : List HourRec) (hxs : xs.Sublist ring) : ((xs ++ [x]).map (·.hour)).Pairwise (· < ·) := by
    simp only [List.map_append, List.map_cons, List.map_nil, List.pairwise_append, List.pairwise_singleton, true_and]
    refine ⟨hrise.sublist (hxs.map _), fun h hh k hk => ?_⟩
    obtain ⟨y, hy, rfl⟩ := List.mem_map.mp hh
    rw [List.mem_singleton.mp hk]
    exact hlate y (hxs.subset hy)
  unfold appendHour
  split
  · exact ⟨by simp; omega, hadd _ (List.drop_sublist ..)⟩
  · exact ⟨by simp; omega, hadd _ (List.Sublist.refl _)⟩

end

section
variable (s : State)

theorem completeScan_keeps (raws : List Raw) : Keeps s (s.completeScan raws) := by
  rw [Display.completeScan_eq]
  refine ⟨fun ⟨hroles, hring, hrise, hcount⟩ => ⟨scan_sound (a := { s.acq with scan := none }) hroles _, ?_⟩, id, id⟩
  have hframe := Display.scan_frame s.cfg.scanList raws s.clock { s.acq with scan := none }
  rw [State.tell_acq, Display.scanned, hframe]
  exact ⟨hring, hrise, hcount⟩

theorem countPulse_keeps : Keeps s { s with acq := { s.acq with running := min 255 (s.acq.running + 1) } } :=
  ⟨fun ⟨hroles, hring, hrise, _⟩ => ⟨hroles, hring, hrise, Nat.min_le_left ..⟩, id, id⟩

theorem closeHour_keeps (h : s.appendDue = true) : Keeps s s.closeHour := by
  have hlate : ∀ y ∈ s.acq.ring, y.hour < s.hourRecord.hour := by
    simp only [State.appendDue, Bool.and_eq_true, List.all_eq_true, decide_eq_true_eq] at h
    obtain ⟨-, hlate⟩ := h
    exact hlate
  refine ⟨fun ⟨hroles, hring, hrise, _⟩ => ?_, id, id⟩
  obtain ⟨hlen, hpairs⟩ := appendHour_sound hring hrise hlate
  exact ⟨hroles, hlen, hpairs, Nat.zero_le _⟩

end

/-! ## The peer table (R155 to R157) -/

section
variable {peers : List (Option Peer)} {i : Nat}

/-- A peer table in which no two entries have one sender (R155). -/
theorem senders_nodup (h : ∀ (i j : Nat) (x y : Peer),
    peers[i]? = some (some x) → peers[j]? = some (some y) → x.sender = y.sender → i = j) :
    ((peers.filterMap id).map (·.sender)).Nodup := by
  rw [List.Nodup, List.pairwise_map, List.pairwise_filterMap, List.pairwise_iff_getElem]
  intro i j hi hj hlt x hx y hy hsender
  exact hlt.ne (h i j x y (List.getElem?_eq_some_iff.mpr ⟨hi, hx⟩) (List.getElem?_eq_some_iff.mpr ⟨hj, hy⟩) hsender)

/-- A peer table stays sound where an entry is freed, or takes a record that agrees with itself and whose sender stands in no
other entry. -/
theorem setPeer_sound {s : State} {x : Option Peer} (hs : PeersSound s)
    (hx : ∀ y, x = some y → (y.missed < 10 ∧ (y.present = true ↔ y.missed < 3)) ∧
      ∀ j z, s.bulletin.peers[j]? = some (some z) → z.sender = y.sender → j = i) : PeersSound (s.setPeer i x) := by
  have ⟨hlen, _, hmarks⟩ := hs
  have hold (j : Nat) (y : Peer) (hj : (s.bulletin.peers.set i x)[j]? = some (some y)) :
      (j = i ∧ x = some y) ∨ (j ≠ i ∧ s.bulletin.peers[j]? = some (some y)) := by
    by_cases hji : j = i
    · subst hji
      rw [List.getElem?_set_self'] at hj
      obtain ⟨_, _, h⟩ := Option.map_eq_some_iff.mp hj
      exact .inl ⟨rfl, h⟩
    · rw [List.getElem?_set_ne (Ne.symm hji)] at hj
      exact .inr ⟨hji, hj⟩
  refine ⟨by simpa using hlen, ?_, fun y hy => ?_⟩
  · refine senders_nodup fun j k y z hj hk hsender => ?_
    rcases hold j y hj with ⟨rfl, hy⟩ | ⟨-, hj'⟩ <;> rcases hold k z hk with ⟨rfl, hz⟩ | ⟨-, hk'⟩
    · rfl
    · obtain ⟨-, hsole⟩ := hx y hy
      exact (hsole k z hk' hsender.symm).symm
    · obtain ⟨-, hsole⟩ := hx z hz
      exact hsole j y hj' hsender
    · exact Display.peers_unique hs hj' hk' hsender
  · obtain ⟨_, hmem, rfl⟩ := List.mem_filterMap.mp hy
    obtain ⟨j, hj⟩ := List.mem_iff_getElem?.mp hmem
    rcases hold j y hj with ⟨-, hxy⟩ | ⟨-, hj'⟩
    · obtain ⟨hmark, -⟩ := hx y hxy
      exact hmark
    · exact hmarks y (List.mem_filterMap.mpr ⟨_, List.mem_of_getElem? hj', rfl⟩)

theorem peer_eq_some {s : State} {x : Peer} : s.peer i = some x ↔ s.bulletin.peers[i]? = some (some x) := by
  rw [State.peer, Option.join_eq_some_iff]

/-- The entry of a sender holds a record of it. -/
theorem entryOf_eq_some {sender : Nat} (h : entryOf peers sender = some i) :
    ∃ x, peers[i]? = some (some x) ∧ x.sender = sender := by
  obtain ⟨hi, hx, -⟩ := List.findIdx?_eq_some_iff_getElem.mp h
  obtain ⟨x, hat, hsender⟩ := (Option.any_eq_true ..).mp hx
  exact ⟨x, by rw [List.getElem?_eq_getElem hi, hat], by simpa using hsender⟩

/-- A sender without an entry stands nowhere in the table. -/
theorem entryOf_eq_none {sender : Nat} (h : entryOf peers sender = none) :
    ∀ (j : Nat) (z : Peer), peers[j]? = some (some z) → z.sender ≠ sender := by
  intro j z hj
  simpa using List.findIdx?_eq_none_iff.mp h (some z) (List.mem_of_getElem? hj)

end

section
variable (s : State)

/-- A bulletin that is stored in the one entry which may hold its sender keeps the peer table sound (R155, R156). -/
theorem storePeer_keeps {i sender : Nat} (b : Bulletin) (old : Option Peer)
    (h : PeersSound s → ∀ j z, s.bulletin.peers[j]? = some (some z) → z.sender = sender → j = i) :
    Keeps s (s.storePeer i sender b old) := by
  refine ⟨id, fun hs => ?_, id⟩
  refine setPeer_sound (s := s) hs fun y hy => ?_
  cases hy
  exact ⟨by simp, h hs⟩

theorem goodBulletin_keeps (sender : Nat) (b : Bulletin) : Keeps s (s.goodBulletin sender b) := by
  unfold State.goodBulletin
  split
  next i hentry =>
    refine storePeer_keeps s b _ fun hs j z hj hz => ?_
    obtain ⟨x, hi, hx⟩ := entryOf_eq_some hentry
    exact Display.peers_unique hs hj hi (hz.trans hx.symm)
  next hnone =>
    split
    · refine (tell_keeps ..).trans (storePeer_keeps _ b _ fun _ j z hj hz => ?_)
      exact absurd hz (entryOf_eq_none hnone j z hj)
    · exact keeps_of_records rfl

theorem takeBulletinFrame_keeps : Keeps s s.takeBulletinFrame := by
  unfold State.takeBulletinFrame
  split
  · exact .refl s
  · dsimp only
    split
    · exact keeps_of_records rfl
    · exact (setLine_keeps ..).trans (goodBulletin_keeps ..)

/-- An entry that ages stays present until the third missed period, and is freed at the tenth (R157). -/
theorem setPeer_aged_keeps {i : Nat} {x : Peer} (hx : s.peer i = some x) : Keeps s (s.setPeer i x.aged) := by
  refine ⟨id, fun hs => setPeer_sound hs fun y hy => ?_, id⟩
  have hi := peer_eq_some.mp hx
  have ⟨_, _, hmarks⟩ := hs
  obtain ⟨-, hpresent⟩ := hmarks x (List.mem_filterMap.mpr ⟨_, List.mem_of_getElem? hi, rfl⟩)
  rw [Display.aged_eq] at hy
  split at hy
  · cases hy
  next hfew =>
    cases hy
    refine ⟨⟨by show x.missed + 1 < 10; omega, ?_⟩, fun j z hj hz => Display.peers_unique hs hj hi hz⟩
    simp only [Bool.and_eq_true, decide_eq_true_eq, hpresent]
    omega

end

/-! ## The path records (R128 to R130) -/

section
variable (s : State)

/-- The path records stay in place where there are as many of each kind as before. -/
theorem setHazard_keeps {h : Hazard} (hpaths : h.paths.length = s.hazard.paths.length)
    (hremotes : h.remotes.length = s.hazard.remotes.length) : Keeps s { s with hazard := h } :=
  ⟨id, id, fun ⟨hp, hc, hr, hd⟩ => ⟨hpaths.trans hp, hc, hremotes.trans hr, hd⟩⟩

theorem setPath_keeps (i : Nat) (x : PathRec) : Keeps s (s.setPath i x) := setHazard_keeps s (List.length_set ..) rfl

theorem recomputeEffective_keeps : Keeps s s.recomputeEffective := by
  rw [Display.recomputeEffective_eq]
  have hleveled : Keeps s (Display.leveled s) :=
    setHazard_keeps s (by simp [State.effectivePaths]) (by simp [State.effectiveRemotes])
  exact hleveled.trans (tell_keeps ..)

theorem outOfPlay_keeps (sender : Nat) : Keeps s (s.outOfPlay sender) := by
  unfold State.outOfPlay State.gateAheadClaims
  exact (recomputeEffective_keeps s).trans (changeStacks_keeps ..)

theorem hearReport_keeps (r : ChangeReport) : Keeps s (s.hearReport r) := by
  unfold State.hearReport State.readReport
  refine .ite ?_
  split
  · exact .ite (setPath_keeps ..)
  · exact .ite ((setPath_keeps ..).trans (recomputeEffective_keeps _))

theorem issueTest_keeps (i : Nat) : Keeps s (s.issueTest i) := by
  unfold State.issueTest
  split
  · split
    · exact .ite ((setPath_keeps ..).trans (tell_keeps ..))
    · exact setPath_keeps ..
  · exact .refl s

theorem askLift_keeps (i : Nat) (n : Option Notice) : Keeps s (s.askLift i n) := by
  cases n
  · exact .refl s
  · exact (setPath_keeps ..).trans (tell_keeps ..)

theorem liftTest_keeps (i : Nat) : Keeps s (s.liftTest i) := .ite (askLift_keeps ..)

theorem secondTest_keeps (i : Nat) : Keeps s (s.secondTest i) := .ite (askLift_keeps ..)

/-- A computation keeps the path records: their figures, their effective levels and the tests (R131, R141). -/
theorem compute_keeps : Keeps s s.compute := by
  have hfigures : Keeps s { s with hazard := { s.hazard with newSnow := s.snowFigure, paths := s.computedPaths } } :=
    setHazard_keeps s (by simp [State.computedPaths]) rfl
  unfold State.compute
  exact hfigures.trans <| (tell_keeps ..).trans <| (recomputeEffective_keeps _).trans <|
    (Keeps.foldl issueTest_keeps ..).trans <| (Keeps.foldl liftTest_keeps ..).trans (Keeps.foldl secondTest_keeps ..)

theorem hearAndCompute_keeps : Keeps s s.hearAndCompute :=
  (Keeps.foldl (fun u r => (take_keeps u _).trans (hearReport_keeps _ r)) _ s).trans (compute_keeps _)

theorem automaticIssue_keeps (i : Nat) (c : PathCfg) (kind : NoticeKind) : Keeps s (s.automaticIssue i c kind) := by
  unfold State.automaticIssue
  split
  next hissued =>
    exact (keeps_of_engine ((Display.issueNotice_writes hissued).trans (Display.commit_writes _))).trans
      (setPath_keeps ..)
  next => exact (setPath_keeps ..).trans (tell_keeps ..)

end

/-! ## Reset and RUNNING entry (R126, R130, R155, R186, R187) -/

section
variable (s : State)

/-- A reset leaves sound records, whatever they were before. -/
theorem doReset_keeps : Keeps s s.doReset := by
  refine ⟨fun _ => ⟨fun r => ?_, Nat.zero_le _, .nil, Nat.zero_le _⟩, fun _ => ?_,
    fun _ => ⟨rfl, Nat.zero_le _, rfl, Nat.zero_le _⟩⟩
  · cases r <;> exact role_reset_sound
  · have hfree : s.doReset.bulletin.peers.filterMap id = [] := rfl
    exact ⟨rfl, by rw [hfree]; exact List.nodup_nil, by rw [hfree]; exact List.forall_mem_nil _⟩

/-- An image without a failure has no more than 4 paths of each kind (R128, R129, R187). -/
theorem paths_le_of_accepted {m : Image} (h : m.failure = none) :
    m.fields.paths.length ≤ 4 ∧ m.fields.remotes.length ≤ 4 := by
  have hrange : m.rangeGood = true := by
    rw [Image.failure, Option.map_eq_none_iff, List.find?_eq_none] at h
    simpa using h (m.rangeGood, .range) (by simp [Image.checks])
  simp only [Image.rangeGood, listsInRange, within, Bool.and_eq_true, decide_eq_true_eq] at hrange
  tauto

/-- RUNNING entry with an image that passed the checks: the roles are taken fresh and the paths are those configured. -/
theorem enterRunning_keeps {c : StationCfg} (hpaths : c.paths.length ≤ 4) (hremotes : c.remotes.length ≤ 4) :
    Keeps s (s.enterRunning c) := by
  have hconfigure : Keeps s (s.configure c) :=
    ⟨fun ⟨_, hring, hrise, hcount⟩ => ⟨fun r => by cases r <;> exact loadedRole_sound .., hring, hrise, hcount⟩, id,
      fun ⟨hp, _, hr, _⟩ => ⟨hp, hpaths, hr, hremotes⟩⟩
  exact (hconfigure.trans (keeps_of_gates (Display.startGates_writes _))).trans (keeps_of_records rfl)

end

/-! ## Orders (R38) -/

section
variable (s : State)

theorem applyRecord_keeps (e : Nat) (a : OrderAction) : Keeps s (s.applyRecord e a) := by
  unfold State.applyRecord
  split
  case h_1 | h_2 =>
    split
    · exact changeStack_keeps ..
    · exact .refl s
  case h_3 | h_4 | h_5 => exact keeps_of_gates (Display.setMode_writes ..)
  case h_6 => exact keeps_of_gates ((Display.setMode_writes ..).trans (Display.setBypass_writes ..))
  all_goals exact keeps_of_records rfl

theorem recoverPanel_keeps (p : Panel) : Keeps s (s.recoverPanel p) := by
  unfold State.recoverPanel
  exact .ite (keeps_of_records rfl)

theorem applyEffect_keeps (a : OrderAction) : Keeps s (s.applyEffect a) := by
  have hgate (gate : Nat) {f : GateId → State} (hf : ∀ g, GateWrites s (f g)) :
      Keeps s ((GateId.ofCode gate).elim s f) := by
    cases GateId.ofCode gate
    · exact .refl s
    · exact keeps_of_gates (hf _)
  unfold State.applyEffect
  split
  case h_1 gate | h_2 gate | h_3 gate => exact hgate gate (Display.reevaluate_writes s)
  case h_4 gate => exact hgate gate fun g => (Display.reevaluate_writes s g).trans (Display.testLowering_writes ..)
  case h_5 object =>
    split
    case h_1 code _ =>
      cases Panel.ofCode code
      · exact .refl s
      · exact recoverPanel_keeps ..
    case h_2 code =>
      split
      next g _ =>
        cases s.cfg.gates.get g
        · exact .refl s
        · exact keeps_of_gates (Display.recoverGate_writes ..)
      next => exact .refl s
    all_goals exact .refl s
  all_goals exact .refl s

/-- A bundle, refused or applied, keeps the records. -/
theorem takeBundle_keeps (requested : Nat) (acts : List OrderAction) : Keeps s (s.takeBundle requested acts) := by
  have hnotices := Display.applyNotices_writes s (s.effective requested) (namedKeys acts) acts
  unfold State.takeBundle
  split
  · exact keeps_of_records rfl
  · refine Keeps.trans (keeps_of_engine ?_) <| (Keeps.foldl (fun u a => applyRecord_keeps u _ a) acts _).trans <|
      (Keeps.foldl applyEffect_keeps acts _).trans (respond_keeps ..)
    split
    · exact hnotices.trans (Display.commit_writes _)
    · exact hnotices

end

end Sys2Proof.Records

/-! Chapters 6 to 8: every step keeps the sensor records, the peer table and the path records (R114 to R130, R155, R157). -/
namespace Sys2Proof.Records

open Machine Safety

/-! ## What the other blocks leave -/

section
variable (s : State)

theorem gateClaims_keeps (g : GateId) (ask : GateAsk) : Keeps s (s.gateClaims g ask) := by
  unfold State.gateClaims
  split
  · exact changeStacks_keeps ..
  · exact .refl s

theorem reformat_keeps (p : Panel) : Keeps s (s.reformat p) := by
  unfold State.reformat
  repeat' split
  all_goals exact keeps_of_records rfl

theorem startFrame_keeps (p : Panel) : Keeps s (s.startFrame p) := by
  rw [Display.startFrame_eq]
  exact keeps_of_records rfl

theorem checkRow_keeps (p : Panel) (row : Nat) (current : Bool) : Keeps s (s.checkRow p row current) := by
  unfold State.checkRow
  dsimp only
  repeat' split
  all_goals exact keeps_of_records rfl

theorem endSettle_keeps : Keeps s s.endSettle :=
  Keeps.trans (t := { s with
    settling := false
    engine := { s.engine with nextNumber := learnedNumber (numbersOf s.engine.table s.cfg.station) } })
    (keeps_of_records rfl) (.foldl (fun u g => keeps_of_gates (Display.releaseSettle_writes u g)) _ _)

theorem tellOwner_keeps (c : InputCfg) (active : Bool) : Keeps s (s.tellOwner c active) := by
  unfold State.tellOwner
  split
  case h_1 | h_2 | h_3 => exact keeps_of_gates (Display.gateInput_writes ..)
  case h_4 => exact .ite (tell_keeps ..)
  case h_5 => exact .ite (keeps_of_link (Panels.lineBusy_writes s))
  all_goals exact .refl s

theorem takeChange_keeps (i : Nat) (x : Input) : Keeps s (s.takeChange i x) :=
  Keeps.trans (t := (s.setInput i x.taken).follow) (keeps_of_records rfl) (tellOwner_keeps ..)

theorem terminalChange_keeps (i : Nat) (x : Input) (active : Bool) : Keeps s (s.terminalChange i x active) := by
  unfold State.terminalChange
  dsimp only
  split_ifs
  · exact .refl s
  · exact keeps_of_records rfl
  · exact takeChange_keeps ..
  · exact keeps_of_records rfl

end

/-! ## The forms of a command -/

section
variable {s t u : State} {c : Instr} {f : State → State}

theorem event_keeps (h : s.event c f = .next t) (hf : ∀ u, Keeps u (f u)) : Keeps s t := by
  rcases s.event_next t c f h with ⟨-, rfl⟩ | ⟨-, rfl⟩
  · exact (take_keeps s c).trans (hf _)
  · exact take_keeps s c

theorem serve_keeps (h : s.serve c f = .next t) (hf : ∀ u, Keeps u (f u)) : Keeps s t := by
  rcases s.serve_next t c f h with rfl | rfl | rfl
  · exact (take_keeps s c).trans (hf _)
  · exact (take_keeps s c).trans (respond_keeps ..)
  · exact take_keeps s c

theorem serveAlways_keeps (h : s.serveAlways c f = .next t) (hf : ∀ u, Keeps u (f u)) : Keeps s t := by
  cases h
  exact (take_keeps s c).trans (.ite (hf _))

theorem next_keeps (hu : Keeps s u) (h : Host.Outcome.next (φ := Fault) (ρ := Refusal) u = .next t) : Keeps s t := by
  cases h
  exact hu

/-! ## Start, reset and requests (R33, R47, R181, R182, R186, R187) -/

theorem execLoadingEnd_keeps (image : Image) (h : execLoadingEnd image s = .next t) : Keeps s t := by
  refine next_keeps (.ite ?_) h
  split
  · exact keeps_of_records rfl
  next haccepted =>
    obtain ⟨hpaths, hremotes⟩ := paths_le_of_accepted haccepted
    exact enterRunning_keeps s hpaths hremotes

theorem execResponseComplete_keeps (h : execResponseComplete s = .next t) : Keeps s t := by
  refine next_keeps ?_ h
  split
  · split
    · exact ((take_keeps s .responseComplete).trans (doReset_keeps _)).trans (keeps_of_records rfl)
    · exact ((take_keeps ..).trans (setPort_keeps ..)).trans (keeps_of_link (Panels.applySetting_writes _))
  all_goals exact take_keeps ..

theorem execOrder_keeps (body : List Byte) (h : execOrder body s = .next t) : Keeps s t := by
  refine serve_keeps h fun u => ?_
  split
  · exact respond_keeps ..
  · exact takeBundle_keeps ..

theorem execServicePortCharacter_keeps (ch : Byte) (framingError parityError : Bool)
    (h : execServicePortCharacter ch framingError parityError s = .next t) : Keeps s t := by
  refine next_keeps ?_ h
  dsimp only
  repeat' split
  case h_2 => exact keeps_of_link (Panels.receive_writes ..)
  all_goals exact keeps_of_records rfl

theorem execRequestGapTimeout_keeps (h : execRequestGapTimeout s = .next t) : Keeps s t := by
  refine next_keeps ?_ h
  split
  · exact (take_keeps ..).trans (.ite (keeps_of_records rfl))
  all_goals exact take_keeps ..

/-! ## The commands of chapters 6 to 8 -/

theorem execScanStart_keeps (h : execScanStart s = .next t) : Keeps s t := by
  refine event_keeps h fun u => ?_
  split
  · exact .ite ⟨id, id, id⟩
  · exact .refl u

theorem execScanComplete_keeps (raws : List Raw) (h : execScanComplete raws s = .next t) : Keeps s t := by
  refine event_keeps h fun u => ?_
  split
  · exact .ite (completeScan_keeps u raws)
  · exact .refl u

theorem execHourlyAppend_keeps (h : execHourlyAppend s = .next t) : Keeps s t := by
  refine event_keeps h fun u => ?_
  split
  next hdue => exact (closeHour_keeps u hdue).trans (hearAndCompute_keeps _)
  next => exact .refl u

theorem execAutomaticIssue_keeps (path : Nat) (h : execAutomaticIssue path s = .next t) : Keeps s t := by
  refine event_keeps h fun u => ?_
  repeat' split
  · exact automaticIssue_keeps ..
  all_goals exact .refl u

theorem execAutomaticLift_keeps (path : Nat) (h : execAutomaticLift path s = .next t) : Keeps s t := by
  refine event_keeps h fun u => ?_
  split
  · refine Keeps.trans ?_ (setPath_keeps ..)
    split
    · exact keeps_of_engine ((Display.liftSlot_writes ..).trans (Display.commit_writes _))
    · exact .refl u
  all_goals exact .refl u

theorem execBulletinTime_keeps (h : execBulletinTime s = .next t) : Keeps s t := by
  refine event_keeps h fun u => ?_
  split
  · exact .ite (keeps_of_records rfl)
  · exact .refl u

theorem execPeriodBoundary_keeps (entry : Nat) (h : execPeriodBoundary entry s = .next t) : Keeps s t := by
  refine event_keeps h fun u => ?_
  split
  next x hx =>
    have haged := setPeer_aged_keeps u hx
    refine .ite ?_
    split
    · exact haged.trans (outOfPlay_keeps ..)
    · exact haged
  next => exact .refl u

/-! ## The commands of the other blocks -/

theorem execRefreshTick_keeps (h : execRefreshTick s = .next t) : Keeps s t := by
  refine event_keeps h fun u => ?_
  split
  · exact .ite (keeps_of_engine (Display.refresh_writes u _))
  · exact .refl u

theorem execMotionLimitExpiry_keeps (g : GateId) (h : execMotionLimitExpiry g s = .next t) : Keeps s t := by
  refine event_keeps h fun u => ?_
  split
  next cfg _ _ _ => exact .ite (keeps_of_gates (Display.moved_writes _ (Orders.enterFault_eq u g cfg _)))
  next => exact .refl u

theorem execBeamClearTimeExpiry_keeps (g : GateId) (h : execBeamClearTimeExpiry g s = .next t) : Keeps s t := by
  refine event_keeps h fun u => ?_
  split
  next cfg _ _ _ => exact .ite (keeps_of_gates (Display.moved_writes _ (Orders.enterLowering_eq u g cfg)))
  next => exact .refl u

theorem execFrameStart_keeps (p : Panel) (h : execFrameStart p s = .next t) : Keeps s t := by
  refine event_keeps h fun u => ?_
  split
  · exact .ite (startFrame_keeps u p)
  · exact .refl u

theorem execFlashPeriodExpiry_keeps (p : Panel) (h : execFlashPeriodExpiry p s = .next t) : Keeps s t := by
  refine event_keeps h fun u => ?_
  split
  · exact .ite (keeps_of_records rfl)
  · exact .refl u

theorem execLampCheckSample_keeps (p : Panel) (h : execLampCheckSample p s = .next t) : Keeps s t := by
  refine event_keeps h fun u => ?_
  dsimp only
  repeat' split
  · exact checkRow_keeps ..
  all_goals exact keeps_of_records rfl

theorem execLineCharacterReceived_keeps (ch : Byte) (framingError : Bool)
    (h : execLineCharacterReceived ch framingError s = .next t) : Keeps s t := by
  refine next_keeps (.ite ?_) h
  refine (keeps_of_link (Panels.endGap_writes s)).trans ?_
  dsimp only
  split
  · exact keeps_of_records rfl
  all_goals exact (setLine_keeps ..).trans (keeps_of_link (Panels.assemble_writes ..))

theorem execLineBusy_keeps (h : execLineBusy s = .next t) : Keeps s t :=
  next_keeps (.ite ((keeps_of_link (Panels.lineBusy_writes s)).trans (setLine_keeps ..))) h

theorem execTransmitStart_keeps (h : execTransmitStart s = .next t) : Keeps s t := by
  refine event_keeps h fun u => ?_
  split
  · exact keeps_of_link (Panels.startSending_writes ..)
  · exact .refl u

theorem execTransmitCharacterEnd_keeps (h : execTransmitCharacterEnd s = .next t) : Keeps s t := by
  refine event_keeps h fun u => ?_
  split
  · refine .ite (keeps_of_link ?_)
    split
    · exact Panels.sendOn_writes ..
    · exact Panels.collide_writes ..
  all_goals exact .refl u

theorem execTerminalLevelChange_keeps (input : Nat) (active : Bool)
    (h : execTerminalLevelChange input active s = .next t) : Keeps s t := by
  refine next_keeps ?_ h
  split
  · split
    · exact terminalChange_keeps ..
    · exact keeps_of_records rfl
  · exact .refl s

theorem execDebounceExpiry_keeps (input : Nat) (h : execDebounceExpiry input s = .next t) : Keeps s t := by
  refine event_keeps h fun u => ?_
  split
  · exact .ite (takeChange_keeps ..)
  · exact .refl u

/-- Every command keeps the records. -/
theorem exec_keeps (h : exec c s = .next t) : Keeps s t := by
  cases c <;> dsimp only [exec] at h
  case reset => exact next_keeps (doReset_keeps s) h
  case loadingEntry => exact next_keeps (by split <;> exact keeps_of_records rfl) h
  case loadingEnd image => exact execLoadingEnd_keeps _ h
  case settleEnd => exact event_keeps h fun u => .ite (endSettle_keeps u)
  case noticeFrameTaken => exact event_keeps h fun u => keeps_of_engine (Display.takeNoticeFrame_writes u)
  case noticeExpiry => exact event_keeps h fun u => .ite (keeps_of_engine (Display.expireDue_writes u))
  case tombstonePurge => exact event_keeps h fun u => .ite (keeps_of_engine (Display.purgeDue_writes u))
  case refreshTick => exact execRefreshTick_keeps h
  case catchUp => exact event_keeps h fun u => keeps_of_engine (Display.setCatchUp_writes u)
  case issue | amend | lift | post | clearPost | holdOpen | holdClosed | release | forceClose | clearFault | restart =>
    exact serve_keeps h fun u => takeBundle_keeps u _ _
  case order body => exact execOrder_keeps _ h
  case status | unknownRequest => exact serveAlways_keeps h fun _ => respond_keeps ..
  case readNoticeBySlot | readNoticeByKey | readSectionMapEntry | readPeerEntry | readLocalPath | readRemotePath
  | readRingRecord | readSensorRole | readPanel | readGate =>
    exact serve_keeps h fun u => keeps_of_link (Panels.answer_writes u _)
  case readLatches | readCounters | clearCounters => exact serve_keeps h fun _ => keeps_of_records rfl
  case readDescriptor | clearLatches => exact serve_keeps h fun u => by split <;> exact keeps_of_records rfl
  case servicePortCharacter ch framingError parityError => exact execServicePortCharacter_keeps _ _ _ h
  case requestGapTimeout => exact execRequestGapTimeout_keeps h
  case responseComplete => exact execResponseComplete_keeps h
  case demandReevaluation g => exact event_keeps h fun u => keeps_of_gates (Display.reevaluate_writes u g)
  case preWarningExpiry g | shownDurationReached g _ =>
    exact event_keeps h fun u => keeps_of_gates (Display.testLowering_writes u g)
  case leadStateReport p =>
    exact event_keeps h fun u => .foldl (fun v g => keeps_of_gates (Display.testForPanel_writes v g p)) GateId.all u
  case motionLimitExpiry g => exact execMotionLimitExpiry_keeps _ h
  case beamClearTimeExpiry g => exact execBeamClearTimeExpiry_keeps _ h
  case flasherPhase g => exact event_keeps h fun u => by split <;> exact keeps_of_records rfl
  case noticeClaim | hazardClaim | gateAheadClaim => exact event_keeps h fun u => changeStacks_keeps u _
  case weatherRuleEvaluation =>
    exact event_keeps h fun u => .ite <|
      (changeStacks_keeps u (Display.weatherChange u)).trans (keeps_of_records rfl)
  case postEnd => exact event_keeps h fun u => .ite (changeStacks_keeps u _)
  case gateClaimRequest g ask => exact event_keeps h fun u => gateClaims_keeps u g ask
  case fieldReformat p => exact event_keeps h fun u => reformat_keeps u p
  case accessedMark | latchSetRequest => exact event_keeps h fun _ => keeps_of_records rfl
  case renderTrigger | renderComplete | brightnessEvaluation =>
    exact event_keeps h fun u => by split <;> exact keeps_of_records rfl
  case frameStart p => exact execFrameStart_keeps _ h
  case flashPeriodExpiry p => exact execFlashPeriodExpiry_keeps _ h
  case lampCheckSample p => exact execLampCheckSample_keeps _ h
  case scanStart => exact execScanStart_keeps h
  case scanComplete raws => exact execScanComplete_keeps _ h
  case slidePulse => exact event_keeps h fun u => .ite (countPulse_keeps u)
  case hourlyAppend => exact execHourlyAppend_keeps h
  case hazardComputation => exact event_keeps h fun u => .ite (hearAndCompute_keeps u)
  case automaticIssue path => exact execAutomaticIssue_keeps _ h
  case automaticLift path => exact execAutomaticLift_keeps _ h
  case noticeChangeReport r => exact event_keeps h fun u => hearReport_keeps u r
  case effectiveLevelRecompute => exact event_keeps h recomputeEffective_keeps
  case bulletinTime => exact execBulletinTime_keeps h
  case bulletinFrameTaken => exact event_keeps h takeBulletinFrame_keeps
  case periodBoundary entry => exact execPeriodBoundary_keeps _ h
  case lineCharacterReceived ch framingError => exact execLineCharacterReceived_keeps _ _ h
  case lineBusy => exact execLineBusy_keeps h
  case receiveGapTimeout => exact event_keeps h fun u => keeps_of_link (Panels.endGap_writes u)
  case transmitStart => exact execTransmitStart_keeps h
  case transmitCharacterEnd => exact execTransmitCharacterEnd_keeps h
  case terminalLevelChange input active => exact execTerminalLevelChange_keeps _ _ h
  case debounceExpiry input => exact execDebounceExpiry_keeps _ h

/-- One microsecond leaves the records. -/
theorem tick_keeps (s : State) : Keeps s s.tick := by
  have hr := congrArg records s.runClock_frame
  have hclock : Keeps s s.runClock := keeps_of_records hr
  exact hclock.trans (tell_keeps ..)

theorem step_keeps (h : step s = .next t) : Keeps s t := by
  cases hp : s.pending with
  | cons c rest =>
    rw [step_pending s c rest hp] at h
    exact Keeps.trans (t := { s with pending := rest }) (keeps_of_records rfl) (exec_keeps h)
  | nil =>
    cases hm : s.told with
    | cons c rest =>
      rw [step_told s c rest hp hm] at h
      exact exec_keeps h
    | nil =>
      rw [step_tick s hp hm] at h
      exact next_keeps (tick_keeps s) h

end

/-- Settles O59: a step keeps the sensor records, the peer table and the path records, each by itself. -/
theorem sensorsAndPeersKept : Obligations.SensorsAndPeersKept :=
  ⟨fun _ _ ⟨hsensors, hpeers⟩ h => ⟨(step_keeps h).sensors hsensors, (step_keeps h).peers hpeers⟩,
    fun _ _ hpaths h => (step_keeps h).paths hpaths⟩

end Sys2Proof.Records

/-! Chapter 10: the field inputs, their debounce and their latches, and what an owner does at a change (R123, R162, R169,
R173 to R177). -/
namespace Sys2Proof.Inputs

open Machine Safety
open Display (GateWrites)

/-! ## What the owner of an input does at a change (R123, R162, R173) -/

/-- The role of an input that belongs to no gate. -/
def GateFree (r : InputRole) : Prop := ∀ g, r ≠ .gateUp g ∧ r ≠ .gateDown g ∧ r ≠ .beam g

/-- What a slide input tells of a change to a level (R123). -/
def pulses (c : InputCfg) (active : Bool) : List Instr :=
  if c.role = .slidePulse ∧ (c.edges = .both ∨ (c.edges = .rising ∧ active = true) ∨
    (c.edges = .falling ∧ active = false)) then [.slidePulse] else []

/-- What the owner of an input leaves of a station whose input has changed to a level: only a gate's input moves a gate, only
the carrier touches the line, and only a slide input tells a pulse. -/
structure OwnerTold (c : InputCfg) (active : Bool) (s t : State) : Prop where
  frame : { t with gates := s.gates, line := s.line, told := s.told } = s
  gates : GateFree c.role → t.gates = s.gates
  line : c.role ≠ .lineCarrier ∨ active = false → t.line = s.line
  busy : c.role = .lineCarrier → s.line.gapRun = false → active = true → t.line = s.line.busyNow
  told : GateFree c.role → t.told = s.told ++ pulses c active
  lineFrame : { t.line with
    rx := s.line.rx, rxGap := s.line.rxGap, tx := s.line.tx, counters := s.line.counters } = s.line

section
variable {s t : State} {c : InputCfg} {active : Bool}

theorem edgeSelected_iff (e : EdgeSelection) (active : Bool) : edgeSelected e active = true ↔
    e = .both ∨ (e = .rising ∧ active = true) ∨ (e = .falling ∧ active = false) := by
  cases e <;> simp [edgeSelected]

theorem pulses_slidePulse (hr : c.role = .slidePulse) :
    pulses c active = if edgeSelected c.edges active = true then [.slidePulse] else [] := by
  simp only [pulses, hr, true_and, edgeSelected_iff]

theorem pulses_other (hr : c.role ≠ .slidePulse) : pulses c active = [] := if_neg fun h => hr h.1

/-- A busy indication touches the receiver, the quiet times and the counters of the line only (R164, R169). -/
theorem lineBusy_frame (s : State) : { s.lineBusy with line := s.line } = s ∧
    { s.lineBusy.line with
      rx := s.line.rx, rxGap := s.line.rxGap, tx := s.line.tx, counters := s.line.counters } = s.line := by
  unfold State.lineBusy
  rcases s.endGap_cases with ⟨-, h⟩ | ⟨-, h⟩ <;> rw [h] <;> exact ⟨rfl, rfl⟩

theorem ownerTold_of_gate {g : GateId} (hr : c.role = .gateUp g ∨ c.role = .gateDown g ∨ c.role = .beam g)
    (h : GateWrites s t) : OwnerTold c active s t := by
  have hgate (hfree : GateFree c.role) : False := by
    obtain ⟨hup, hdown, hbeam⟩ := hfree g
    tauto
  have hcarrier : c.role ≠ .lineCarrier := by rcases hr with hr | hr | hr <;> rw [hr] <;> nofun
  have hframe := congrArg (fun u : State => { u with line := s.line }) h
  have hline := congrArg State.line h
  have hlineFrame := congrArg (fun l : Line => { l with
    rx := s.line.rx, rxGap := s.line.rxGap, tx := s.line.tx, counters := s.line.counters }) hline
  exact ⟨hframe, fun hfree => (hgate hfree).elim, fun _ => hline, fun hrole => absurd hrole hcarrier,
    fun hfree => (hgate hfree).elim, hlineFrame⟩

theorem ownerTold_of_tell (hcarrier : c.role ≠ .lineCarrier) : OwnerTold c active s (s.tell (pulses c active)) :=
  ⟨rfl, fun _ => rfl, fun _ => rfl, fun hrole => absurd hrole hcarrier, fun _ => rfl, rfl⟩

theorem ownerTold_of_silent (hslide : c.role ≠ .slidePulse) (h : c.role ≠ .lineCarrier ∨ active = false) :
    OwnerTold c active s s := by
  refine ⟨rfl, fun _ => rfl, fun _ => rfl, fun hrole _ hactive => ?_, fun _ => ?_, rfl⟩
  · rcases h with h | h
    · exact absurd hrole h
    · rw [h] at hactive
      cases hactive
  · rw [pulses_other hslide, List.append_nil]

theorem ownerTold_of_busy (hr : c.role = .lineCarrier) : OwnerTold c true s s.lineBusy := by
  obtain ⟨hframe, hline⟩ := lineBusy_frame s
  have hgates := congrArg State.gates hframe
  have htold := congrArg State.told hframe
  refine ⟨?_, fun _ => hgates, fun h => ?_, fun _ hgap _ => ?_, fun _ => ?_, hline⟩
  · have h := congrArg (fun u : State => { u with gates := s.gates, told := s.told }) hframe
    exact h
  · rcases h with h | h
    · exact absurd hr h
    · cases h
  · rw [s.lineBusy_quiet hgap]
  · rw [pulses_other (by rw [hr]; nofun), List.append_nil]
    exact htold

/-- The owner is told according to the role of the input. -/
theorem tellOwner_ownerTold (s : State) (c : InputCfg) (active : Bool) : OwnerTold c active s (s.tellOwner c active) := by
  unfold State.tellOwner
  split
  case h_1 g hr => exact ownerTold_of_gate (.inl hr) (Display.gateInput_writes ..)
  case h_2 g hr => exact ownerTold_of_gate (.inr (.inl hr)) (Display.gateInput_writes ..)
  case h_3 g hr => exact ownerTold_of_gate (.inr (.inr hr)) (Display.gateInput_writes ..)
  case h_4 hr =>
    have htell : (if edgeSelected c.edges active = true then s.tell [.slidePulse] else s) = s.tell (pulses c active) := by
      rw [pulses_slidePulse hr]
      split <;> simp [State.tell]
    rw [htell]
    exact ownerTold_of_tell (by rw [hr]; nofun)
  case h_5 hr =>
    cases active
    · exact ownerTold_of_silent (by rw [hr]; nofun) (.inr rfl)
    · exact ownerTold_of_busy hr
  all_goals next hr => exact ownerTold_of_silent (by rw [hr]; nofun) (.inl (by rw [hr]; nofun))

/-! ## A change of an input (R174, R175, R177) -/

/-- ATTENTION that follows the latches follows them after the owner has been told (R177). -/
theorem OwnerTold.attention (h : OwnerTold c active s t) (hs : AttentionFollows s) : AttentionFollows t := by
  have hlevel := congrArg State.attentionLevel h.frame
  have hattention := congrArg State.attention h.frame
  exact hattention.trans (hs.trans hlevel.symm)

variable {cmd : Instr} {i : Nat} {x : Input}

/-- A change that is taken writes the input's record and ATTENTION, and then tells the owner. -/
theorem takeChange_ownerTold (s : State) (i : Nat) (y : Input) :
    OwnerTold y.cfg y.terminal (s.setInput i y.taken).follow (s.takeChange i y) := tellOwner_ownerTold ..

/-- A level that equals the debounced one stops the timer (R174). -/
theorem exec_terminalLevelChange_back (hs : s.startUp = .running) (hx : s.inputs[i]? = some x)
    (hterm : x.terminal ≠ active) (hdeb : x.debounced = active) : exec (.terminalLevelChange i active) s =
      .next (s.setInput i { x with terminal := active, timer := none }) := by
  have hrun : s.running = true := by simp [State.running, hs]
  show execTerminalLevelChange i active s = _
  simp only [execTerminalLevelChange, hx, hrun, if_true, State.terminalChange, if_neg hterm, if_pos hdeb.symm]

/-- A level that differs from the debounced one starts the timer of an input with a debounce time (R174). -/
theorem exec_terminalLevelChange_away (hs : s.startUp = .running) (hx : s.inputs[i]? = some x)
    (hterm : x.terminal ≠ active) (hdeb : x.debounced ≠ active) (htime : x.cfg.debounce ≠ 0) :
    exec (.terminalLevelChange i active) s =
      .next (s.setInput i { x with terminal := active, timer := some s.clock }) := by
  have hrun : s.running = true := by simp [State.running, hs]
  show execTerminalLevelChange i active s = _
  simp only [execTerminalLevelChange, hx, hrun, if_true, State.terminalChange, if_neg hterm, if_neg hdeb.symm,
    if_neg htime]

/-- Both commands that take a change: the input's record with the terminal's level is taken, the command out of the messages. -/
theorem exec_change_taken (hs : s.startUp = .running) (hx : s.inputs[i]? = some x)
    (hcmd : (cmd = .terminalLevelChange i active ∧ x.cfg.debounce = 0 ∧ x.terminal ≠ active ∧ x.debounced ≠ active) ∨
      (cmd = .debounceExpiry i ∧ x.terminal = active ∧ ∃ u, x.timer = some u ∧ u + x.cfg.debounce * 1000 ≤ s.clock)) :
    ∃ told, ((cmd = .terminalLevelChange i active ∧ told = s.told) ∨
        (cmd = .debounceExpiry i ∧ told = (s.take (.debounceExpiry i)).told)) ∧
      exec cmd s = .next (({ s with told := told } : State).takeChange i { x with terminal := active }) := by
  rcases hcmd with ⟨rfl, hnow, hterm, hdeb⟩ | ⟨rfl, rfl, u, htimer, hdue⟩
  · exact ⟨_, .inl ⟨rfl, rfl⟩, Gates.exec_terminalLevelChange_taken hs hx hnow hterm hdeb⟩
  · exact ⟨_, .inr ⟨rfl, rfl⟩, Gates.exec_debounceExpiry_taken hs hx htimer hdue⟩

end

/-- Settles O51: a change that is taken is the input's record and ATTENTION, and then what `OwnerTold` gives. -/
theorem fieldInputChanges : Obligations.FieldInputChanges := by
  refine fun s hs => ⟨fun i x active hx hterm => ⟨fun hdeb => ?back, fun hdeb htime => ?away⟩,
    fun cmd i x active hx hcmd => ?taken, fun latch => ?latch⟩
  case back => exact exec_terminalLevelChange_back hs hx hterm hdeb
  case away => exact exec_terminalLevelChange_away hs hx hterm hdeb htime
  case latch => exact ⟨_, Gates.event_of_startUp (f := fun u => u.setFault latch) hs, rfl, rfl, rfl⟩
  case taken =>
    obtain ⟨told, htold, hexec⟩ := exec_change_taken hs hx hcmd
    have hold := takeChange_ownerTold { s with told := told } i { x with terminal := active }
    refine ⟨_, hexec, ?inputs, hold.attention rfl, hold.gates, fun hr => hold.line (.inl hr), hold.busy,
      fun _ ha => hold.line (.inr ha), fun hfree => ?told, fun hr hedge => ?pulse, hold.lineFrame, ?frame⟩
    case inputs =>
      refine (congrArg State.inputs hold.frame).trans ?_
      show s.inputs.set i _ = _
      dsimp only [Input.taken]
      cases x.cfg.edges <;> rfl
    case told =>
      rcases htold with ⟨rfl, rfl⟩ | ⟨rfl, rfl⟩
      · exact hold.told hfree
      · exact hold.told hfree
    case pulse =>
      have hfree : GateFree x.cfg.role := fun g => by rw [hr]; exact ⟨nofun, nofun, nofun⟩
      rw [hold.told hfree, pulses, if_pos ⟨hr, hedge⟩]
      exact List.mem_append_right _ (List.mem_singleton_self _)
    case frame =>
      exact congrArg (fun v : State => { v with
        inputs := s.inputs, attention := s.attention, gates := s.gates, line := s.line, told := s.told }) hold.frame

end Sys2Proof.Inputs
